-- ==== Sys2Proof/Word.lean ====
section
/-!
DEFINITION. Word.lean: the machine's words (R7, R11) and the six stored flags (R44).
-/

namespace Sys2Proof

/-- An 8-bit value, the spec's u8 (R11): A, X, Y, S and every memory cell (R7). -/
abbrev Byte := BitVec 8

/-- A 16-bit value, the spec's u16 (R11): the PC and every address (R7). -/
abbrev Addr := BitVec 16

/-- A surface pixel: a 4-bit colour index (R502, R530). -/
abbrev Pixel := BitVec 4

/-- The six stored flags (R44). There is no stored B flag and no stored bit 5: they exist only in a pushed byte. -/
structure Flags where
  c : Bool
  z : Bool
  i : Bool
  d : Bool
  v : Bool
  n : Bool
deriving DecidableEq, Repr, Inhabited

end Sys2Proof
end

