-- ==== Sys2Proof/Syntax.lean ====
section
/-!
DEFINITION. Syntax.lean: the instructions, one constructor per row of spec/opcode_table.json (R151), named by mnemonic
and addressing mode (R131). Rows that share mnemonic, mode and rule (JAM, ANC #, the illegal NOPs of one mode) differ in
the opcode byte alone and share a constructor that carries it: Lean's runtime admits at most 244 constructors.
-/

namespace Sys2Proof

/-- The instructions of R151. `v` is an immediate value (R140), `zp` a zero-page operand byte (R141 to R145), `a` a 16-bit
operand (R143, R146, R147), `off` a branch offset (R148), `op` the opcode byte where rows share a
constructor. -/
inductive Instr where
  -- row 0x of R151
  | brk
  | oraIzx (zp : Byte)
  | jam (op : Byte)
  | sloIzx (zp : Byte)
  | nopZp (op : Byte) (zp : Byte)
  | oraZp (zp : Byte)
  | aslZp (zp : Byte)
  | sloZp (zp : Byte)
  | php
  | oraImm (v : Byte)
  | aslAcc
  | ancImm (op : Byte) (v : Byte)
  | nopAbs (a : Addr)
  | oraAbs (a : Addr)
  | aslAbs (a : Addr)
  | sloAbs (a : Addr)
  -- row 1x of R151
  | bpl (off : Int)
  | oraIzy (zp : Byte)
  | sloIzy (zp : Byte)
  | nopZpx (op : Byte) (zp : Byte)
  | oraZpx (zp : Byte)
  | aslZpx (zp : Byte)
  | sloZpx (zp : Byte)
  | clc
  | oraAbsy (a : Addr)
  | nopImp (op : Byte)
  | sloAbsy (a : Addr)
  | nopAbsx (op : Byte) (a : Addr)
  | oraAbsx (a : Addr)
  | aslAbsx (a : Addr)
  | sloAbsx (a : Addr)
  -- row 2x of R151
  | jsrAbs (a : Addr)
  | andIzx (zp : Byte)
  | rlaIzx (zp : Byte)
  | bitZp (zp : Byte)
  | andZp (zp : Byte)
  | rolZp (zp : Byte)
  | rlaZp (zp : Byte)
  | plp
  | andImm (v : Byte)
  | rolAcc
  | bitAbs (a : Addr)
  | andAbs (a : Addr)
  | rolAbs (a : Addr)
  | rlaAbs (a : Addr)
  -- row 3x of R151
  | bmi (off : Int)
  | andIzy (zp : Byte)
  | rlaIzy (zp : Byte)
  | andZpx (zp : Byte)
  | rolZpx (zp : Byte)
  | rlaZpx (zp : Byte)
  | sec
  | andAbsy (a : Addr)
  | rlaAbsy (a : Addr)
  | andAbsx (a : Addr)
  | rolAbsx (a : Addr)
  | rlaAbsx (a : Addr)
  -- row 4x of R151
  | rti
  | eorIzx (zp : Byte)
  | sreIzx (zp : Byte)
  | eorZp (zp : Byte)
  | lsrZp (zp : Byte)
  | sreZp (zp : Byte)
  | pha
  | eorImm (v : Byte)
  | lsrAcc
  | alrImm (v : Byte)
  | jmpAbs (a : Addr)
  | eorAbs (a : Addr)
  | lsrAbs (a : Addr)
  | sreAbs (a : Addr)
  -- row 5x of R151
  | bvc (off : Int)
  | eorIzy (zp : Byte)
  | sreIzy (zp : Byte)
  | eorZpx (zp : Byte)
  | lsrZpx (zp : Byte)
  | sreZpx (zp : Byte)
  | cli
  | eorAbsy (a : Addr)
  | sreAbsy (a : Addr)
  | eorAbsx (a : Addr)
  | lsrAbsx (a : Addr)
  | sreAbsx (a : Addr)
  -- row 6x of R151
  | rts
  | adcIzx (zp : Byte)
  | rraIzx (zp : Byte)
  | adcZp (zp : Byte)
  | rorZp (zp : Byte)
  | rraZp (zp : Byte)
  | pla
  | adcImm (v : Byte)
  | rorAcc
  | arrImm (v : Byte)
  | jmpInd (a : Addr)
  | adcAbs (a : Addr)
  | rorAbs (a : Addr)
  | rraAbs (a : Addr)
  -- row 7x of R151
  | bvs (off : Int)
  | adcIzy (zp : Byte)
  | rraIzy (zp : Byte)
  | adcZpx (zp : Byte)
  | rorZpx (zp : Byte)
  | rraZpx (zp : Byte)
  | sei
  | adcAbsy (a : Addr)
  | rraAbsy (a : Addr)
  | adcAbsx (a : Addr)
  | rorAbsx (a : Addr)
  | rraAbsx (a : Addr)
  -- row 8x of R151
  | nopImm (op : Byte) (v : Byte)
  | staIzx (zp : Byte)
  | saxIzx (zp : Byte)
  | styZp (zp : Byte)
  | staZp (zp : Byte)
  | stxZp (zp : Byte)
  | saxZp (zp : Byte)
  | dey
  | txa
  | aneImm (v : Byte)
  | styAbs (a : Addr)
  | staAbs (a : Addr)
  | stxAbs (a : Addr)
  | saxAbs (a : Addr)
  -- row 9x of R151
  | bcc (off : Int)
  | staIzy (zp : Byte)
  | shaIzy (zp : Byte)
  | styZpx (zp : Byte)
  | staZpx (zp : Byte)
  | stxZpy (zp : Byte)
  | saxZpy (zp : Byte)
  | tya
  | staAbsy (a : Addr)
  | txs
  | tasAbsy (a : Addr)
  | shyAbsx (a : Addr)
  | staAbsx (a : Addr)
  | shxAbsy (a : Addr)
  | shaAbsy (a : Addr)
  -- row Ax of R151
  | ldyImm (v : Byte)
  | ldaIzx (zp : Byte)
  | ldxImm (v : Byte)
  | laxIzx (zp : Byte)
  | ldyZp (zp : Byte)
  | ldaZp (zp : Byte)
  | ldxZp (zp : Byte)
  | laxZp (zp : Byte)
  | tay
  | ldaImm (v : Byte)
  | tax
  | lxaImm (v : Byte)
  | ldyAbs (a : Addr)
  | ldaAbs (a : Addr)
  | ldxAbs (a : Addr)
  | laxAbs (a : Addr)
  -- row Bx of R151
  | bcs (off : Int)
  | ldaIzy (zp : Byte)
  | laxIzy (zp : Byte)
  | ldyZpx (zp : Byte)
  | ldaZpx (zp : Byte)
  | ldxZpy (zp : Byte)
  | laxZpy (zp : Byte)
  | clv
  | ldaAbsy (a : Addr)
  | tsx
  | lasAbsy (a : Addr)
  | ldyAbsx (a : Addr)
  | ldaAbsx (a : Addr)
  | ldxAbsy (a : Addr)
  | laxAbsy (a : Addr)
  -- row Cx of R151
  | cpyImm (v : Byte)
  | cmpIzx (zp : Byte)
  | dcpIzx (zp : Byte)
  | cpyZp (zp : Byte)
  | cmpZp (zp : Byte)
  | decZp (zp : Byte)
  | dcpZp (zp : Byte)
  | iny
  | cmpImm (v : Byte)
  | dex
  | sbxImm (v : Byte)
  | cpyAbs (a : Addr)
  | cmpAbs (a : Addr)
  | decAbs (a : Addr)
  | dcpAbs (a : Addr)
  -- row Dx of R151
  | bne (off : Int)
  | cmpIzy (zp : Byte)
  | dcpIzy (zp : Byte)
  | cmpZpx (zp : Byte)
  | decZpx (zp : Byte)
  | dcpZpx (zp : Byte)
  | cld
  | cmpAbsy (a : Addr)
  | dcpAbsy (a : Addr)
  | cmpAbsx (a : Addr)
  | decAbsx (a : Addr)
  | dcpAbsx (a : Addr)
  -- row Ex of R151
  | cpxImm (v : Byte)
  | sbcIzx (zp : Byte)
  | iscIzx (zp : Byte)
  | cpxZp (zp : Byte)
  | sbcZp (zp : Byte)
  | incZp (zp : Byte)
  | iscZp (zp : Byte)
  | inx
  | sbcImm (v : Byte)
  | nop
  | usbcImm (v : Byte)
  | cpxAbs (a : Addr)
  | sbcAbs (a : Addr)
  | incAbs (a : Addr)
  | iscAbs (a : Addr)
  -- row Fx of R151
  | beq (off : Int)
  | sbcIzy (zp : Byte)
  | iscIzy (zp : Byte)
  | sbcZpx (zp : Byte)
  | incZpx (zp : Byte)
  | iscZpx (zp : Byte)
  | sed
  | sbcAbsy (a : Addr)
  | iscAbsy (a : Addr)
  | sbcAbsx (a : Addr)
  | incAbsx (a : Addr)
  | iscAbsx (a : Addr)
deriving DecidableEq, Repr

end Sys2Proof
end

