-- ==== Sys2Proof/WellFormed.lean ====
section
/-!
DEFINITION. WellFormed.lean: which terms of Instr are instructions. Operand bytes and 16-bit operands are all admitted by
their types; a branch offset is an integer, and the encoding admits -128 to 127 (R148, R154); where rows share a
constructor, its opcode byte is one of those rows' (R351, R361, R366).
-/

namespace Sys2Proof

/-- A branch offset that one byte can hold (R148, R154). -/
def offsetInRange (off : Int) : Bool := decide (-128 ≤ off) && decide (off ≤ 127)

/-- The check of an instruction's operands. -/
def Instr.wf : Instr → Bool
  | .brk => true
  | .oraIzx _ => true
  | .jam op => [0x02, 0x12, 0x22, 0x32, 0x42, 0x52, 0x62, 0x72, 0x92, 0xB2, 0xD2, 0xF2].contains op
  | .sloIzx _ => true
  | .nopZp op _ => [0x04, 0x44, 0x64].contains op
  | .oraZp _ => true
  | .aslZp _ => true
  | .sloZp _ => true
  | .php => true
  | .oraImm _ => true
  | .aslAcc => true
  | .ancImm op _ => [0x0B, 0x2B].contains op
  | .nopAbs _ => true
  | .oraAbs _ => true
  | .aslAbs _ => true
  | .sloAbs _ => true
  | .bpl off => offsetInRange off
  | .oraIzy _ => true
  | .sloIzy _ => true
  | .nopZpx op _ => [0x14, 0x34, 0x54, 0x74, 0xD4, 0xF4].contains op
  | .oraZpx _ => true
  | .aslZpx _ => true
  | .sloZpx _ => true
  | .clc => true
  | .oraAbsy _ => true
  | .nopImp op => [0x1A, 0x3A, 0x5A, 0x7A, 0xDA, 0xFA].contains op
  | .sloAbsy _ => true
  | .nopAbsx op _ => [0x1C, 0x3C, 0x5C, 0x7C, 0xDC, 0xFC].contains op
  | .oraAbsx _ => true
  | .aslAbsx _ => true
  | .sloAbsx _ => true
  | .jsrAbs _ => true
  | .andIzx _ => true
  | .rlaIzx _ => true
  | .bitZp _ => true
  | .andZp _ => true
  | .rolZp _ => true
  | .rlaZp _ => true
  | .plp => true
  | .andImm _ => true
  | .rolAcc => true
  | .bitAbs _ => true
  | .andAbs _ => true
  | .rolAbs _ => true
  | .rlaAbs _ => true
  | .bmi off => offsetInRange off
  | .andIzy _ => true
  | .rlaIzy _ => true
  | .andZpx _ => true
  | .rolZpx _ => true
  | .rlaZpx _ => true
  | .sec => true
  | .andAbsy _ => true
  | .rlaAbsy _ => true
  | .andAbsx _ => true
  | .rolAbsx _ => true
  | .rlaAbsx _ => true
  | .rti => true
  | .eorIzx _ => true
  | .sreIzx _ => true
  | .eorZp _ => true
  | .lsrZp _ => true
  | .sreZp _ => true
  | .pha => true
  | .eorImm _ => true
  | .lsrAcc => true
  | .alrImm _ => true
  | .jmpAbs _ => true
  | .eorAbs _ => true
  | .lsrAbs _ => true
  | .sreAbs _ => true
  | .bvc off => offsetInRange off
  | .eorIzy _ => true
  | .sreIzy _ => true
  | .eorZpx _ => true
  | .lsrZpx _ => true
  | .sreZpx _ => true
  | .cli => true
  | .eorAbsy _ => true
  | .sreAbsy _ => true
  | .eorAbsx _ => true
  | .lsrAbsx _ => true
  | .sreAbsx _ => true
  | .rts => true
  | .adcIzx _ => true
  | .rraIzx _ => true
  | .adcZp _ => true
  | .rorZp _ => true
  | .rraZp _ => true
  | .pla => true
  | .adcImm _ => true
  | .rorAcc => true
  | .arrImm _ => true
  | .jmpInd _ => true
  | .adcAbs _ => true
  | .rorAbs _ => true
  | .rraAbs _ => true
  | .bvs off => offsetInRange off
  | .adcIzy _ => true
  | .rraIzy _ => true
  | .adcZpx _ => true
  | .rorZpx _ => true
  | .rraZpx _ => true
  | .sei => true
  | .adcAbsy _ => true
  | .rraAbsy _ => true
  | .adcAbsx _ => true
  | .rorAbsx _ => true
  | .rraAbsx _ => true
  | .nopImm op _ => [0x80, 0x82, 0x89, 0xC2, 0xE2].contains op
  | .staIzx _ => true
  | .saxIzx _ => true
  | .styZp _ => true
  | .staZp _ => true
  | .stxZp _ => true
  | .saxZp _ => true
  | .dey => true
  | .txa => true
  | .aneImm _ => true
  | .styAbs _ => true
  | .staAbs _ => true
  | .stxAbs _ => true
  | .saxAbs _ => true
  | .bcc off => offsetInRange off
  | .staIzy _ => true
  | .shaIzy _ => true
  | .styZpx _ => true
  | .staZpx _ => true
  | .stxZpy _ => true
  | .saxZpy _ => true
  | .tya => true
  | .staAbsy _ => true
  | .txs => true
  | .tasAbsy _ => true
  | .shyAbsx _ => true
  | .staAbsx _ => true
  | .shxAbsy _ => true
  | .shaAbsy _ => true
  | .ldyImm _ => true
  | .ldaIzx _ => true
  | .ldxImm _ => true
  | .laxIzx _ => true
  | .ldyZp _ => true
  | .ldaZp _ => true
  | .ldxZp _ => true
  | .laxZp _ => true
  | .tay => true
  | .ldaImm _ => true
  | .tax => true
  | .lxaImm _ => true
  | .ldyAbs _ => true
  | .ldaAbs _ => true
  | .ldxAbs _ => true
  | .laxAbs _ => true
  | .bcs off => offsetInRange off
  | .ldaIzy _ => true
  | .laxIzy _ => true
  | .ldyZpx _ => true
  | .ldaZpx _ => true
  | .ldxZpy _ => true
  | .laxZpy _ => true
  | .clv => true
  | .ldaAbsy _ => true
  | .tsx => true
  | .lasAbsy _ => true
  | .ldyAbsx _ => true
  | .ldaAbsx _ => true
  | .ldxAbsy _ => true
  | .laxAbsy _ => true
  | .cpyImm _ => true
  | .cmpIzx _ => true
  | .dcpIzx _ => true
  | .cpyZp _ => true
  | .cmpZp _ => true
  | .decZp _ => true
  | .dcpZp _ => true
  | .iny => true
  | .cmpImm _ => true
  | .dex => true
  | .sbxImm _ => true
  | .cpyAbs _ => true
  | .cmpAbs _ => true
  | .decAbs _ => true
  | .dcpAbs _ => true
  | .bne off => offsetInRange off
  | .cmpIzy _ => true
  | .dcpIzy _ => true
  | .cmpZpx _ => true
  | .decZpx _ => true
  | .dcpZpx _ => true
  | .cld => true
  | .cmpAbsy _ => true
  | .dcpAbsy _ => true
  | .cmpAbsx _ => true
  | .decAbsx _ => true
  | .dcpAbsx _ => true
  | .cpxImm _ => true
  | .sbcIzx _ => true
  | .iscIzx _ => true
  | .cpxZp _ => true
  | .sbcZp _ => true
  | .incZp _ => true
  | .iscZp _ => true
  | .inx => true
  | .sbcImm _ => true
  | .nop => true
  | .usbcImm _ => true
  | .cpxAbs _ => true
  | .sbcAbs _ => true
  | .incAbs _ => true
  | .iscAbs _ => true
  | .beq off => offsetInRange off
  | .sbcIzy _ => true
  | .iscIzy _ => true
  | .sbcZpx _ => true
  | .incZpx _ => true
  | .iscZpx _ => true
  | .sed => true
  | .sbcAbsy _ => true
  | .iscAbsy _ => true
  | .sbcAbsx _ => true
  | .incAbsx _ => true
  | .iscAbsx _ => true

/-- The instruction is well formed. -/
abbrev WellFormed (i : Instr) : Prop := i.wf = true

end Sys2Proof
end

