-- ==== Sys2Proof/Decode.lean ====
section
/-!
DEFINITION. Decode.lean: the byte-order and offset helpers of the encoding (R91, R148), the opcode map of R151 as a table,
the decoder, total on any bytes, and the encoder.
-/

namespace Sys2Proof

/-- The address whose low and high bytes are given (R91). -/
def mkAddr (lo hi : Byte) : Addr := hi ++ lo

/-- The low byte of an address. -/
def loByte (a : Addr) : Byte := a.setWidth 8

/-- The high byte of an address. -/
def hiByte (a : Addr) : Byte := (a >>> 8).setWidth 8

/-- The branch offset a byte stands for, -128 to 127 (R148). -/
def offsetOfByte (b : Byte) : Int := b.toInt

/-- The byte that stands for a branch offset (R154). -/
def byteOfOffset (off : Int) : Byte := BitVec.ofInt 8 off

/-- What an opcode byte selects: an instruction, up to its operand bytes (R130, R131). -/
inductive Shape where
  | implied (i : Instr)
  | byte (f : Byte → Instr)
  | relative (f : Int → Instr)
  | word (f : Addr → Instr)

/-- The length in bytes (R130). -/
def Shape.length : Shape → Nat
  | .implied _ => 1
  | .byte _ => 2
  | .relative _ => 2
  | .word _ => 3

/-- The instruction, given the two bytes after the opcode; a byte beyond the length is not looked at. -/
def Shape.fill (b1 b2 : Byte) : Shape → Instr
  | .implied i => i
  | .byte f => f b1
  | .relative f => f (offsetOfByte b1)
  | .word f => f (mkAddr b1 b2)

/-! ## The opcode map (R151), by rows of the high nibble -/

def mapRow0 : List Shape :=
  [.implied .brk, .byte .oraIzx, .implied (.jam 0x02), .byte .sloIzx,
   .byte (.nopZp 0x04), .byte .oraZp, .byte .aslZp, .byte .sloZp,
   .implied .php, .byte .oraImm, .implied .aslAcc, .byte (.ancImm 0x0B),
   .word .nopAbs, .word .oraAbs, .word .aslAbs, .word .sloAbs]

def mapRow1 : List Shape :=
  [.relative .bpl, .byte .oraIzy, .implied (.jam 0x12), .byte .sloIzy,
   .byte (.nopZpx 0x14), .byte .oraZpx, .byte .aslZpx, .byte .sloZpx,
   .implied .clc, .word .oraAbsy, .implied (.nopImp 0x1A), .word .sloAbsy,
   .word (.nopAbsx 0x1C), .word .oraAbsx, .word .aslAbsx, .word .sloAbsx]

def mapRow2 : List Shape :=
  [.word .jsrAbs, .byte .andIzx, .implied (.jam 0x22), .byte .rlaIzx,
   .byte .bitZp, .byte .andZp, .byte .rolZp, .byte .rlaZp,
   .implied .plp, .byte .andImm, .implied .rolAcc, .byte (.ancImm 0x2B),
   .word .bitAbs, .word .andAbs, .word .rolAbs, .word .rlaAbs]

def mapRow3 : List Shape :=
  [.relative .bmi, .byte .andIzy, .implied (.jam 0x32), .byte .rlaIzy,
   .byte (.nopZpx 0x34), .byte .andZpx, .byte .rolZpx, .byte .rlaZpx,
   .implied .sec, .word .andAbsy, .implied (.nopImp 0x3A), .word .rlaAbsy,
   .word (.nopAbsx 0x3C), .word .andAbsx, .word .rolAbsx, .word .rlaAbsx]

def mapRow4 : List Shape :=
  [.implied .rti, .byte .eorIzx, .implied (.jam 0x42), .byte .sreIzx,
   .byte (.nopZp 0x44), .byte .eorZp, .byte .lsrZp, .byte .sreZp,
   .implied .pha, .byte .eorImm, .implied .lsrAcc, .byte .alrImm,
   .word .jmpAbs, .word .eorAbs, .word .lsrAbs, .word .sreAbs]

def mapRow5 : List Shape :=
  [.relative .bvc, .byte .eorIzy, .implied (.jam 0x52), .byte .sreIzy,
   .byte (.nopZpx 0x54), .byte .eorZpx, .byte .lsrZpx, .byte .sreZpx,
   .implied .cli, .word .eorAbsy, .implied (.nopImp 0x5A), .word .sreAbsy,
   .word (.nopAbsx 0x5C), .word .eorAbsx, .word .lsrAbsx, .word .sreAbsx]

def mapRow6 : List Shape :=
  [.implied .rts, .byte .adcIzx, .implied (.jam 0x62), .byte .rraIzx,
   .byte (.nopZp 0x64), .byte .adcZp, .byte .rorZp, .byte .rraZp,
   .implied .pla, .byte .adcImm, .implied .rorAcc, .byte .arrImm,
   .word .jmpInd, .word .adcAbs, .word .rorAbs, .word .rraAbs]

def mapRow7 : List Shape :=
  [.relative .bvs, .byte .adcIzy, .implied (.jam 0x72), .byte .rraIzy,
   .byte (.nopZpx 0x74), .byte .adcZpx, .byte .rorZpx, .byte .rraZpx,
   .implied .sei, .word .adcAbsy, .implied (.nopImp 0x7A), .word .rraAbsy,
   .word (.nopAbsx 0x7C), .word .adcAbsx, .word .rorAbsx, .word .rraAbsx]

def mapRow8 : List Shape :=
  [.byte (.nopImm 0x80), .byte .staIzx, .byte (.nopImm 0x82), .byte .saxIzx,
   .byte .styZp, .byte .staZp, .byte .stxZp, .byte .saxZp,
   .implied .dey, .byte (.nopImm 0x89), .implied .txa, .byte .aneImm,
   .word .styAbs, .word .staAbs, .word .stxAbs, .word .saxAbs]

def mapRow9 : List Shape :=
  [.relative .bcc, .byte .staIzy, .implied (.jam 0x92), .byte .shaIzy,
   .byte .styZpx, .byte .staZpx, .byte .stxZpy, .byte .saxZpy,
   .implied .tya, .word .staAbsy, .implied .txs, .word .tasAbsy,
   .word .shyAbsx, .word .staAbsx, .word .shxAbsy, .word .shaAbsy]

def mapRowA : List Shape :=
  [.byte .ldyImm, .byte .ldaIzx, .byte .ldxImm, .byte .laxIzx,
   .byte .ldyZp, .byte .ldaZp, .byte .ldxZp, .byte .laxZp,
   .implied .tay, .byte .ldaImm, .implied .tax, .byte .lxaImm,
   .word .ldyAbs, .word .ldaAbs, .word .ldxAbs, .word .laxAbs]

def mapRowB : List Shape :=
  [.relative .bcs, .byte .ldaIzy, .implied (.jam 0xB2), .byte .laxIzy,
   .byte .ldyZpx, .byte .ldaZpx, .byte .ldxZpy, .byte .laxZpy,
   .implied .clv, .word .ldaAbsy, .implied .tsx, .word .lasAbsy,
   .word .ldyAbsx, .word .ldaAbsx, .word .ldxAbsy, .word .laxAbsy]

def mapRowC : List Shape :=
  [.byte .cpyImm, .byte .cmpIzx, .byte (.nopImm 0xC2), .byte .dcpIzx,
   .byte .cpyZp, .byte .cmpZp, .byte .decZp, .byte .dcpZp,
   .implied .iny, .byte .cmpImm, .implied .dex, .byte .sbxImm,
   .word .cpyAbs, .word .cmpAbs, .word .decAbs, .word .dcpAbs]

def mapRowD : List Shape :=
  [.relative .bne, .byte .cmpIzy, .implied (.jam 0xD2), .byte .dcpIzy,
   .byte (.nopZpx 0xD4), .byte .cmpZpx, .byte .decZpx, .byte .dcpZpx,
   .implied .cld, .word .cmpAbsy, .implied (.nopImp 0xDA), .word .dcpAbsy,
   .word (.nopAbsx 0xDC), .word .cmpAbsx, .word .decAbsx, .word .dcpAbsx]

def mapRowE : List Shape :=
  [.byte .cpxImm, .byte .sbcIzx, .byte (.nopImm 0xE2), .byte .iscIzx,
   .byte .cpxZp, .byte .sbcZp, .byte .incZp, .byte .iscZp,
   .implied .inx, .byte .sbcImm, .implied .nop, .byte .usbcImm,
   .word .cpxAbs, .word .sbcAbs, .word .incAbs, .word .iscAbs]

def mapRowF : List Shape :=
  [.relative .beq, .byte .sbcIzy, .implied (.jam 0xF2), .byte .iscIzy,
   .byte (.nopZpx 0xF4), .byte .sbcZpx, .byte .incZpx, .byte .iscZpx,
   .implied .sed, .word .sbcAbsy, .implied (.nopImp 0xFA), .word .iscAbsy,
   .word (.nopAbsx 0xFC), .word .sbcAbsx, .word .incAbsx, .word .iscAbsx]

/-- The 256 cells of R151, in the order of the opcode. -/
def opcodeMap : List Shape :=
  mapRow0 ++ (mapRow1 ++ (mapRow2 ++ (mapRow3 ++ (mapRow4 ++ (mapRow5 ++ (mapRow6 ++ (mapRow7 ++ (mapRow8 ++ (mapRow9 ++
  (mapRowA ++ (mapRowB ++ (mapRowC ++ (mapRowD ++ (mapRowE ++ mapRowF))))))))))))))

/-- The cell of an opcode (R151). All 256 opcodes are assigned (R152), so the default is never taken. -/
def shapeOf (op : Byte) : Shape := opcodeMap.getD op.toNat (.implied .nop)

/-- The length in bytes of an instruction with this opcode, "a function of the opcode alone" (R130). -/
def opcodeLength (op : Byte) : Nat := (shapeOf op).length

/-- The instruction of an opcode and the two bytes after it. -/
def decodeBytes (op b1 b2 : Byte) : Instr := (shapeOf op).fill b1 b2

/-- Why a list of bytes is no instruction. No opcode is reserved (R152), so only missing bytes are. -/
inductive DecodeError where
  | noOpcode
  | missingOperand (op : Byte)
deriving DecidableEq, Repr

/-- The instruction at the front of a list of bytes, and the rest (R130). -/
def decode : List Byte → Except DecodeError (Instr × List Byte)
  | [] => .error .noOpcode
  | op :: rest =>
    match shapeOf op, rest with
    | .implied i, _ => .ok (i, rest)
    | .byte f, b :: rest => .ok (f b, rest)
    | .relative f, b :: rest => .ok (f (offsetOfByte b), rest)
    | .word f, lo :: hi :: rest => .ok (f (mkAddr lo hi), rest)
    | _, _ => .error (.missingOperand op)

/-! ## The encoder (R131, R151) -/

/-- The bytes of an instruction, opcode first (R131). -/
def encode : Instr → List Byte
  | .brk => [0x00]
  | .oraIzx b => [0x01, b]
  | .jam op => [op]
  | .sloIzx b => [0x03, b]
  | .nopZp op b => [op, b]
  | .oraZp b => [0x05, b]
  | .aslZp b => [0x06, b]
  | .sloZp b => [0x07, b]
  | .php => [0x08]
  | .oraImm b => [0x09, b]
  | .aslAcc => [0x0A]
  | .ancImm op b => [op, b]
  | .nopAbs a => [0x0C, loByte a, hiByte a]
  | .oraAbs a => [0x0D, loByte a, hiByte a]
  | .aslAbs a => [0x0E, loByte a, hiByte a]
  | .sloAbs a => [0x0F, loByte a, hiByte a]
  | .bpl off => [0x10, byteOfOffset off]
  | .oraIzy b => [0x11, b]
  | .sloIzy b => [0x13, b]
  | .nopZpx op b => [op, b]
  | .oraZpx b => [0x15, b]
  | .aslZpx b => [0x16, b]
  | .sloZpx b => [0x17, b]
  | .clc => [0x18]
  | .oraAbsy a => [0x19, loByte a, hiByte a]
  | .nopImp op => [op]
  | .sloAbsy a => [0x1B, loByte a, hiByte a]
  | .nopAbsx op a => [op, loByte a, hiByte a]
  | .oraAbsx a => [0x1D, loByte a, hiByte a]
  | .aslAbsx a => [0x1E, loByte a, hiByte a]
  | .sloAbsx a => [0x1F, loByte a, hiByte a]
  | .jsrAbs a => [0x20, loByte a, hiByte a]
  | .andIzx b => [0x21, b]
  | .rlaIzx b => [0x23, b]
  | .bitZp b => [0x24, b]
  | .andZp b => [0x25, b]
  | .rolZp b => [0x26, b]
  | .rlaZp b => [0x27, b]
  | .plp => [0x28]
  | .andImm b => [0x29, b]
  | .rolAcc => [0x2A]
  | .bitAbs a => [0x2C, loByte a, hiByte a]
  | .andAbs a => [0x2D, loByte a, hiByte a]
  | .rolAbs a => [0x2E, loByte a, hiByte a]
  | .rlaAbs a => [0x2F, loByte a, hiByte a]
  | .bmi off => [0x30, byteOfOffset off]
  | .andIzy b => [0x31, b]
  | .rlaIzy b => [0x33, b]
  | .andZpx b => [0x35, b]
  | .rolZpx b => [0x36, b]
  | .rlaZpx b => [0x37, b]
  | .sec => [0x38]
  | .andAbsy a => [0x39, loByte a, hiByte a]
  | .rlaAbsy a => [0x3B, loByte a, hiByte a]
  | .andAbsx a => [0x3D, loByte a, hiByte a]
  | .rolAbsx a => [0x3E, loByte a, hiByte a]
  | .rlaAbsx a => [0x3F, loByte a, hiByte a]
  | .rti => [0x40]
  | .eorIzx b => [0x41, b]
  | .sreIzx b => [0x43, b]
  | .eorZp b => [0x45, b]
  | .lsrZp b => [0x46, b]
  | .sreZp b => [0x47, b]
  | .pha => [0x48]
  | .eorImm b => [0x49, b]
  | .lsrAcc => [0x4A]
  | .alrImm b => [0x4B, b]
  | .jmpAbs a => [0x4C, loByte a, hiByte a]
  | .eorAbs a => [0x4D, loByte a, hiByte a]
  | .lsrAbs a => [0x4E, loByte a, hiByte a]
  | .sreAbs a => [0x4F, loByte a, hiByte a]
  | .bvc off => [0x50, byteOfOffset off]
  | .eorIzy b => [0x51, b]
  | .sreIzy b => [0x53, b]
  | .eorZpx b => [0x55, b]
  | .lsrZpx b => [0x56, b]
  | .sreZpx b => [0x57, b]
  | .cli => [0x58]
  | .eorAbsy a => [0x59, loByte a, hiByte a]
  | .sreAbsy a => [0x5B, loByte a, hiByte a]
  | .eorAbsx a => [0x5D, loByte a, hiByte a]
  | .lsrAbsx a => [0x5E, loByte a, hiByte a]
  | .sreAbsx a => [0x5F, loByte a, hiByte a]
  | .rts => [0x60]
  | .adcIzx b => [0x61, b]
  | .rraIzx b => [0x63, b]
  | .adcZp b => [0x65, b]
  | .rorZp b => [0x66, b]
  | .rraZp b => [0x67, b]
  | .pla => [0x68]
  | .adcImm b => [0x69, b]
  | .rorAcc => [0x6A]
  | .arrImm b => [0x6B, b]
  | .jmpInd a => [0x6C, loByte a, hiByte a]
  | .adcAbs a => [0x6D, loByte a, hiByte a]
  | .rorAbs a => [0x6E, loByte a, hiByte a]
  | .rraAbs a => [0x6F, loByte a, hiByte a]
  | .bvs off => [0x70, byteOfOffset off]
  | .adcIzy b => [0x71, b]
  | .rraIzy b => [0x73, b]
  | .adcZpx b => [0x75, b]
  | .rorZpx b => [0x76, b]
  | .rraZpx b => [0x77, b]
  | .sei => [0x78]
  | .adcAbsy a => [0x79, loByte a, hiByte a]
  | .rraAbsy a => [0x7B, loByte a, hiByte a]
  | .adcAbsx a => [0x7D, loByte a, hiByte a]
  | .rorAbsx a => [0x7E, loByte a, hiByte a]
  | .rraAbsx a => [0x7F, loByte a, hiByte a]
  | .nopImm op b => [op, b]
  | .staIzx b => [0x81, b]
  | .saxIzx b => [0x83, b]
  | .styZp b => [0x84, b]
  | .staZp b => [0x85, b]
  | .stxZp b => [0x86, b]
  | .saxZp b => [0x87, b]
  | .dey => [0x88]
  | .txa => [0x8A]
  | .aneImm b => [0x8B, b]
  | .styAbs a => [0x8C, loByte a, hiByte a]
  | .staAbs a => [0x8D, loByte a, hiByte a]
  | .stxAbs a => [0x8E, loByte a, hiByte a]
  | .saxAbs a => [0x8F, loByte a, hiByte a]
  | .bcc off => [0x90, byteOfOffset off]
  | .staIzy b => [0x91, b]
  | .shaIzy b => [0x93, b]
  | .styZpx b => [0x94, b]
  | .staZpx b => [0x95, b]
  | .stxZpy b => [0x96, b]
  | .saxZpy b => [0x97, b]
  | .tya => [0x98]
  | .staAbsy a => [0x99, loByte a, hiByte a]
  | .txs => [0x9A]
  | .tasAbsy a => [0x9B, loByte a, hiByte a]
  | .shyAbsx a => [0x9C, loByte a, hiByte a]
  | .staAbsx a => [0x9D, loByte a, hiByte a]
  | .shxAbsy a => [0x9E, loByte a, hiByte a]
  | .shaAbsy a => [0x9F, loByte a, hiByte a]
  | .ldyImm b => [0xA0, b]
  | .ldaIzx b => [0xA1, b]
  | .ldxImm b => [0xA2, b]
  | .laxIzx b => [0xA3, b]
  | .ldyZp b => [0xA4, b]
  | .ldaZp b => [0xA5, b]
  | .ldxZp b => [0xA6, b]
  | .laxZp b => [0xA7, b]
  | .tay => [0xA8]
  | .ldaImm b => [0xA9, b]
  | .tax => [0xAA]
  | .lxaImm b => [0xAB, b]
  | .ldyAbs a => [0xAC, loByte a, hiByte a]
  | .ldaAbs a => [0xAD, loByte a, hiByte a]
  | .ldxAbs a => [0xAE, loByte a, hiByte a]
  | .laxAbs a => [0xAF, loByte a, hiByte a]
  | .bcs off => [0xB0, byteOfOffset off]
  | .ldaIzy b => [0xB1, b]
  | .laxIzy b => [0xB3, b]
  | .ldyZpx b => [0xB4, b]
  | .ldaZpx b => [0xB5, b]
  | .ldxZpy b => [0xB6, b]
  | .laxZpy b => [0xB7, b]
  | .clv => [0xB8]
  | .ldaAbsy a => [0xB9, loByte a, hiByte a]
  | .tsx => [0xBA]
  | .lasAbsy a => [0xBB, loByte a, hiByte a]
  | .ldyAbsx a => [0xBC, loByte a, hiByte a]
  | .ldaAbsx a => [0xBD, loByte a, hiByte a]
  | .ldxAbsy a => [0xBE, loByte a, hiByte a]
  | .laxAbsy a => [0xBF, loByte a, hiByte a]
  | .cpyImm b => [0xC0, b]
  | .cmpIzx b => [0xC1, b]
  | .dcpIzx b => [0xC3, b]
  | .cpyZp b => [0xC4, b]
  | .cmpZp b => [0xC5, b]
  | .decZp b => [0xC6, b]
  | .dcpZp b => [0xC7, b]
  | .iny => [0xC8]
  | .cmpImm b => [0xC9, b]
  | .dex => [0xCA]
  | .sbxImm b => [0xCB, b]
  | .cpyAbs a => [0xCC, loByte a, hiByte a]
  | .cmpAbs a => [0xCD, loByte a, hiByte a]
  | .decAbs a => [0xCE, loByte a, hiByte a]
  | .dcpAbs a => [0xCF, loByte a, hiByte a]
  | .bne off => [0xD0, byteOfOffset off]
  | .cmpIzy b => [0xD1, b]
  | .dcpIzy b => [0xD3, b]
  | .cmpZpx b => [0xD5, b]
  | .decZpx b => [0xD6, b]
  | .dcpZpx b => [0xD7, b]
  | .cld => [0xD8]
  | .cmpAbsy a => [0xD9, loByte a, hiByte a]
  | .dcpAbsy a => [0xDB, loByte a, hiByte a]
  | .cmpAbsx a => [0xDD, loByte a, hiByte a]
  | .decAbsx a => [0xDE, loByte a, hiByte a]
  | .dcpAbsx a => [0xDF, loByte a, hiByte a]
  | .cpxImm b => [0xE0, b]
  | .sbcIzx b => [0xE1, b]
  | .iscIzx b => [0xE3, b]
  | .cpxZp b => [0xE4, b]
  | .sbcZp b => [0xE5, b]
  | .incZp b => [0xE6, b]
  | .iscZp b => [0xE7, b]
  | .inx => [0xE8]
  | .sbcImm b => [0xE9, b]
  | .nop => [0xEA]
  | .usbcImm b => [0xEB, b]
  | .cpxAbs a => [0xEC, loByte a, hiByte a]
  | .sbcAbs a => [0xED, loByte a, hiByte a]
  | .incAbs a => [0xEE, loByte a, hiByte a]
  | .iscAbs a => [0xEF, loByte a, hiByte a]
  | .beq off => [0xF0, byteOfOffset off]
  | .sbcIzy b => [0xF1, b]
  | .iscIzy b => [0xF3, b]
  | .sbcZpx b => [0xF5, b]
  | .incZpx b => [0xF6, b]
  | .iscZpx b => [0xF7, b]
  | .sed => [0xF8]
  | .sbcAbsy a => [0xF9, loByte a, hiByte a]
  | .iscAbsy a => [0xFB, loByte a, hiByte a]
  | .sbcAbsx a => [0xFD, loByte a, hiByte a]
  | .incAbsx a => [0xFE, loByte a, hiByte a]
  | .iscAbsx a => [0xFF, loByte a, hiByte a]

/-- The opcode byte of an instruction. -/
def opcodeOf (i : Instr) : Byte := (encode i).headD 0

/-- Byte k of the table word w of `nbits` bits: bit 0 of the word is the least significant bit of the first byte, and
every bit above `nbits` is 0. -/
def tableByte (nbits w k : Nat) : Byte := BitVec.ofNat 8 ((w % 2 ^ nbits) >>> (8 * k))

/-- The instruction the decoder reads from a table word, laid out as three bytes. -/
def decodeTableWord (nbits w : Nat) : Option Instr :=
  match decode [tableByte nbits w 0, tableByte nbits w 1, tableByte nbits w 2] with
  | .ok (i, _) => some i
  | .error _ => none

end Sys2Proof
end

