-- ==== Sys2Proof/Config.lean ====
section
/-!
DEFINITION. Config.lean: the free values of the model: what R8 leaves OPEN to the host and what R468 makes a draw.
Each is a constant with no body, so nothing can be proved of its value.
The parameters to which the spec gives a default are in Machine/Params.lean.
-/

namespace Sys2Proof.Config

/-- What the trap callback sees: "a function of the trap address and the CPU and memory state" (R420). In a trap step
the rest of the CPU state is fixed: RUNNING, no request pending (R400, R406, R412), and the PC at the trap address. -/
structure TrapView where
  addr   : Addr
  a      : Byte
  x      : Byte
  y      : Byte
  sp     : Byte
  flags  : Flags
  cycles : Nat
  ram    : List Host.Cell
  shadow : List Host.Cell
deriving DecidableEq, Repr, Inhabited

/-- What the trap callback returns (R420): "new values of A, X, Y, the six flags, RAM and the SHADOW bytes".
New contents of RAM and SHADOW are given as the writes that make them.
`sp` is here because R420 does not forbid the callback to change S, `reset` because R602 lets a callback request a reset. -/
structure TrapResult where
  a            : Byte
  x            : Byte
  y            : Byte
  sp           : Byte
  flags        : Flags
  ramWrites    : List (Addr × Byte)
  shadowWrites : List (BitVec 12 × Byte)
  reset        : Bool
deriving DecidableEq, Repr, Inhabited

/-- TRAP_EFFECT (R420), a host parameter; the number is the draw's (the host has state of its own). -/
opaque trapEffect : Nat → TrapView → TrapResult

/-- What a host's read interception answers (R9, R84): a value if it handles the address, and whether it asks for a reset
(R602). -/
structure ReadReply where
  handled : Option Byte
  reset   : Bool
deriving DecidableEq, Repr, Inhabited

/-- A read interception of the host's own (R9, R52), by the draw's number and the address. -/
opaque readCallback : Nat → Addr → ReadReply

/-- A write interception of the host's own (R9, R52), by the draw's number, the address and the value; of the block it can
only ask for a reset (R602). -/
opaque writeCallback : Nat → Addr → Byte → Bool

/-- INPUT_KEYS (R468): the keyboard rows answering a column select; the first number is the draw's, since a draw may
differ between two reads. -/
opaque inputKeys : Nat → Byte → Byte

/-- The joystick port 1 bits, ANDed into a read of $DC01 (R468). -/
opaque inputJoy1 : Nat → Byte

/-- INPUT_JOY2 (R468): the joystick port 2 bits. -/
opaque inputJoy2 : Nat → Byte

/-- BOOT_PATCH(load, end) (R470): the zero-page end-of-program pointers, as zero-page writes. The spec does not define
`end`; which number the model passes is its own choice (log entry 19). -/
opaque bootPatch : Addr → Nat → List (Byte × Byte)

/-- BOOT_ENTRY(load) (R470): the reset vector the boot step sets. -/
opaque bootEntry : Addr → Addr

/-- The lower end of RATE_POLICY's target band of queue lengths (R578). -/
opaque rateBandLow : Nat

/-- How far RATE_POLICY's target band of queue lengths reaches above its lower end (R578). -/
opaque rateBandWidth : Nat

/-- By how much RATE_POLICY stretches n cycles at a short queue of the given length (R578). -/
opaque rateStretch : Nat → Nat → Nat

/-- By how much RATE_POLICY compresses n cycles at a long queue of the given length (R578). -/
opaque rateSqueeze : Nat → Nat → Nat

/-- COMBINED_WAVE of the host's own (R564): a control register and the triangle, sawtooth, pulse and noise outputs. -/
opaque combinedWave : Byte → BitVec 12 → BitVec 12 → BitVec 12 → BitVec 12 → BitVec 12

/-- FILTER_COEFF of the host's own (R574): the coefficients (f, q), two real numbers, for a sample rate, a cutoff `fc` and a
resonance `res`. The model uses them only where they are stable (R575): Machine/RealValue.lean, `hostCoeff`. -/
noncomputable opaque filterCoeff : Nat → Nat → Nat → ℝ × ℝ

end Sys2Proof.Config
end

