-- ==== Sys2Proof/Machine/Memory.lean ====
section
/-!
DEFINITION. Machine/Memory.lean: a byte array held sparsely (R50), and its raw accesses (R89).
RAM and SHADOW are two such arrays; what the bus adds to a raw access is in Machine/Ops.lean.
-/

namespace Sys2Proof.Machine

/-- A byte array: (address, byte) pairs, addresses strictly rising, no entry equal to what an unlisted address reads as. -/
abbrev Memory := List Host.Cell

namespace Memory

/-- What an unlisted address reads as. DESIGN CHOICE (unsafe), log entry 1: RAM and SHADOW are unspecified at creation
(R53); 0x00 is the draw that 95_test_vectors.md Part 3 takes. -/
def blank : Byte := 0x00

/-- The byte at an address (R89 RawRead, ShadowRead). -/
def read : Memory → Nat → Byte
  | [], _ => blank
  | (k, v) :: m, a => if a = k then v else if a < k then blank else read m a

/-- The cell (a, v) in front of m, unless it says what an unlisted address reads as anyway. -/
def consCell (a : Nat) (v : Byte) (m : Memory) : Memory :=
  if v = blank then m else (a, v) :: m

/-- The array with the byte at `a` set to `v` (R89 RawWrite), in the canonical form. -/
def write : Memory → Nat → Byte → Memory
  | [], a, v => consCell a v []
  | (k, w) :: m, a, v =>
    if a = k then consCell a v m
    else if a < k then consCell a v ((k, w) :: m)
    else (k, w) :: write m a v

/-- Every address of m is above `lo` and below `size`, the addresses rise strictly, and no cell holds `blank`. -/
def wfAbove (size : Nat) : Option Nat → Memory → Bool
  | _, [] => true
  | lo, (k, v) :: m =>
    (match lo with
      | none => true
      | some l => decide (l < k)) && decide (k < size) && decide (v ≠ blank) && wfAbove size (some k) m

/-- The canonical form of an array of `size` cells. -/
def wf (size : Nat) (m : Memory) : Bool := wfAbove size none m

/-- Writes made in order. -/
def writeAll (m : Memory) : List (Nat × Byte) → Memory
  | [] => m
  | (a, v) :: ws => writeAll (write m a v) ws

end Memory

/-- The number of RAM cells (R50). -/
def ramSize : Nat := 65536

/-- The number of I/O-shadow cells (R50). -/
def shadowSize : Nat := 4096

end Sys2Proof.Machine
end

