-- ==== Sys2Proof/Machine/Params.lean ====
section
/-!
DEFINITION. Machine/Params.lean: the implementation parameters of R8 and the callbacks of R52, as the record `Params`, which
State carries and no step changes. What R8 leaves OPEN to the host is in Config.lean.
-/

namespace Sys2Proof.Machine

/-! ## Parameters fixed by the source (R8, R82) -/

/-- IO_LO. -/
def ioLo : Nat := 0xD000

/-- IO_HI. -/
def ioHi : Nat := 0xE000

/-! ## The illegal opcodes (R350 to R352, R366, R367) -/

/-- The twelve jam opcodes (R351). -/
def jamOpcodes : List Byte :=
  [0x02, 0x12, 0x22, 0x32, 0x42, 0x52, 0x62, 0x72, 0x92, 0xB2, 0xD2, 0xF2]

/-- SLO, RLA, SRE, RRA (R353 to R356). -/
def illegalShiftOpcodes : List Byte :=
  [0x07, 0x17, 0x0F, 0x1F, 0x1B, 0x03, 0x13] ++ [0x27, 0x37, 0x2F, 0x3F, 0x3B, 0x23, 0x33] ++
  [0x47, 0x57, 0x4F, 0x5F, 0x5B, 0x43, 0x53] ++ [0x67, 0x77, 0x6F, 0x7F, 0x7B, 0x63, 0x73]

/-- DCP, ISC (R359, R360). -/
def illegalCountOpcodes : List Byte :=
  [0xC7, 0xD7, 0xCF, 0xDF, 0xDB, 0xC3, 0xD3] ++ [0xE7, 0xF7, 0xEF, 0xFF, 0xFB, 0xE3, 0xF3]

/-- SAX, LAX (R357, R358). -/
def illegalMoveOpcodes : List Byte :=
  [0x87, 0x97, 0x8F, 0x83] ++ [0xA7, 0xB7, 0xAF, 0xBF, 0xA3, 0xB3]

/-- ANC, ALR, ARR, SBX, USBC (R361 to R365). -/
def illegalImmediateOpcodes : List Byte :=
  [0x0B, 0x2B, 0x4B, 0x6B, 0xCB, 0xEB]

/-- The 27 illegal NOPs (R366). -/
def illegalNopOpcodes : List Byte :=
  [0x1A, 0x3A, 0x5A, 0x7A, 0xDA, 0xFA] ++ [0x80, 0x82, 0x89, 0xC2, 0xE2] ++ [0x04, 0x44, 0x64] ++
  [0x14, 0x34, 0x54, 0x74, 0xD4, 0xF4] ++ [0x0C] ++ [0x1C, 0x3C, 0x5C, 0x7C, 0xDC, 0xFC]

/-- The stable illegal set (R352), 85 opcodes. -/
def stableIllegal : List Byte :=
  illegalShiftOpcodes ++ illegalCountOpcodes ++ illegalMoveOpcodes ++ illegalImmediateOpcodes ++ illegalNopOpcodes

/-- The unstable illegal opcodes (R367). -/
def unstableIllegal : List Byte :=
  [0x8B, 0xAB, 0x93, 0x9F, 0x9E, 0x9C, 0x9B, 0xBB]

/-! ## The configuration arguments (R8, R52) -/

/-- RATE_POLICY (R578): the identity the spec uses in examples, or the host's own policy. -/
inductive RatePolicy where
  | identity
  | host
deriving DecidableEq, Repr

/-- FILTER_COEFF (R574): the spec's default formula, or the host's own map. -/
inductive FilterPolicy where
  | formula
  | host
deriving DecidableEq, Repr

/-- COMBINED_WAVE (R564): the bitwise AND, or the host's own combination. -/
inductive CombinedWave where
  | bitwiseAnd
  | host
deriving DecidableEq, Repr

/-- An interception callback, injected at construction (R9, R52): none (R84 "An absent callback behaves as one that
declines", R86), the block's own (R88, R107), or another one of the host's. -/
inductive Interception where
  | absent
  | block
  | host
deriving DecidableEq, Repr

/-- The configuration arguments of the block: the table of R8, and the callbacks of R9 and R52. -/
structure Params where
  /-- BANK_CTRL_ADDR (R51): "a fixed zero-page address". -/
  bankCtrlAddr     : Byte
  /-- VEC_NMI (R99). -/
  vecNmi           : Addr
  /-- VEC_RESET (R99). -/
  vecReset         : Addr
  /-- VEC_IRQ, shared by IRQ and BRK (R99). -/
  vecIrq           : Addr
  /-- RESET_CYCLES (R402). -/
  resetCycles      : Nat
  /-- INT_CYCLES (R408). -/
  intCycles        : Nat
  /-- TRAP_WINDOW (R418), a set of PC values: the union of the intervals listed, both ends included. -/
  trapWindow       : List (Addr × Addr)
  /-- TRAP_RETURN_OPCODE (R418). -/
  trapReturnOpcode : Byte
  /-- ILLEGAL_SET (R352): a subset of the stable and unstable illegal opcodes. -/
  illegalSet       : List Byte
  /-- UNDECODED_LEN (R370). -/
  undecodedLen     : Nat
  /-- UNDECODED_CYCLES (R370). -/
  undecodedCycles  : Nat
  /-- JAM_CYCLES (R351). -/
  jamCycles        : Nat
  /-- JAM_STEP_CYCLES (R416). -/
  jamStepCycles    : Nat
  /-- LINES_PER_FRAME (R450). -/
  linesPerFrame    : Nat
  /-- CYCLES_PER_LINE (R450). -/
  cyclesPerLine    : Nat
  /-- VISIBLE_FIRST (R458). -/
  visibleFirst     : Nat
  /-- VISIBLE_COUNT (R458). -/
  visibleCount     : Nat
  /-- CPU_CLOCK_HZ (R572). -/
  cpuClockHz       : Nat
  /-- SAMPLE_RATE_HZ (R572), OPEN. -/
  sampleRateHz     : Nat
  /-- RATE_POLICY (R578), OPEN. -/
  ratePolicy       : RatePolicy
  /-- FILTER_COEFF (R574), OPEN with a default. -/
  filterPolicy     : FilterPolicy
  /-- COMBINED_WAVE (R564). -/
  combinedWave     : CombinedWave
  /-- The read interception (R84). -/
  readCallback     : Interception
  /-- The write interception (R86). -/
  writeCallback    : Interception
  /-- Is a trap callback registered? Its absence is no error (R418). -/
  trapCallback     : Bool
deriving DecidableEq, Repr

/-- The spec-default column of R8 and the block's own callbacks; where R8 says OPEN with no default, the value of the
spec's examples (log entry 4). -/
def defaultParams : Params where
  bankCtrlAddr := 0x01
  vecNmi := 0xFFFA
  vecReset := 0xFFFC
  vecIrq := 0xFFFE
  resetCycles := 7
  intCycles := 7
  trapWindow := [(0xFF81, 0xFFF5)]
  trapReturnOpcode := 0x60
  illegalSet := stableIllegal
  undecodedLen := 1
  undecodedCycles := 2
  jamCycles := 2
  jamStepCycles := 1
  linesPerFrame := 312
  cyclesPerLine := 63
  visibleFirst := 51
  visibleCount := 200
  cpuClockHz := 985248
  sampleRateHz := 44100
  ratePolicy := .identity
  filterPolicy := .formula
  combinedWave := .bitwiseAnd
  readCallback := .block
  writeCallback := .block
  trapCallback := true

/-- Does the PC lie in TRAP_WINDOW (R418)? -/
def inTrapWindow (p : Params) (pc : Addr) : Bool :=
  p.trapWindow.any fun w => decide (w.1 ≤ pc) && decide (pc ≤ w.2)

/-- Is the opcode illegal, other than a jam opcode (R350)? -/
def isIllegalOpcode (op : Byte) : Bool :=
  stableIllegal.contains op || unstableIllegal.contains op

/-- Is the opcode undecoded under these parameters (R350, R370)? -/
def isUndecoded (p : Params) (op : Byte) : Bool :=
  isIllegalOpcode op && !p.illegalSet.contains op

/-! ## Values at creation that the spec leaves unspecified (R53, POWER_ON)

DESIGN CHOICE (unsafe), log entry 2: the draws that 95_test_vectors.md Part 3 takes. -/

def powerOnA : Byte := 0x00
def powerOnX : Byte := 0x00
def powerOnY : Byte := 0x00
def powerOnS : Byte := 0xFF
def powerOnFlags : Flags := ⟨false, false, false, false, false, false⟩

end Sys2Proof.Machine
end

