-- ==== Sys2Proof/Machine/RealTerm.lean ====
section
/-!
DEFINITION. Machine/RealTerm.lean: the real numbers the audio unit computes with (R553, R574, R576), held exactly, as terms.
Which real number a term stands for is Machine/RealValue.lean.
-/

namespace Sys2Proof.Machine

/-- A real number as plain data: a rational, a constant of FILTER_COEFF (R574), or an operation on terms. Log entry 6. -/
inductive RealTerm where
  | rat (r : Rat)
  /-- The square root of 2. -/
  | sqrtTwo
  /-- The coefficient `f` of the formula for a sample rate and a cutoff `fc`. -/
  | formulaF (rate fc : Nat)
  /-- The coefficient `f` of the host's own FILTER_COEFF, for a sample rate, a cutoff and a resonance. -/
  | hostF (rate fc res : Nat)
  /-- The coefficient `q` of the host's own FILTER_COEFF. -/
  | hostQ (rate fc res : Nat)
  | sum (a b : RealTerm)
  | product (a b : RealTerm)
  /-- `clamp(a, -1, 1)`. -/
  | clamp (a : RealTerm)
deriving DecidableEq, Repr

namespace RealTerm

/-- The sum; a rational where both are, and no operation where one is 0. -/
def add : RealTerm → RealTerm → RealTerm
  | .rat x, .rat y => .rat (x + y)
  | .rat x, b => if x = 0 then b else .sum (.rat x) b
  | a, .rat y => if y = 0 then a else .sum a (.rat y)
  | a, b => .sum a b

/-- A term times a rational. -/
def scale (x : Rat) : RealTerm → RealTerm
  | .rat y => .rat (x * y)
  | a => if x = 0 then .rat 0 else if x = 1 then a else .product (.rat x) a

/-- The product; `scale` where one is a rational. -/
def mul : RealTerm → RealTerm → RealTerm
  | .rat x, b => scale x b
  | a, .rat y => scale y a
  | a, b => .product a b

/-- The difference. -/
def sub (a b : RealTerm) : RealTerm := add a (scale (-1) b)

/-- `clamp(v, -1, 1)` of a rational (R576). -/
def clampRat (v : Rat) : Rat := if v < -1 then -1 else if 1 < v then 1 else v

/-- `clamp(v, -1, 1)` (R576). -/
def clampUnit : RealTerm → RealTerm
  | .rat r => .rat (clampRat r)
  | a => .clamp a

end RealTerm

end Sys2Proof.Machine
end

