-- ==== Sys2Proof/Machine/State.lean ====
section
/-!
DEFINITION. Machine/State.lean: everything the spec gives the machine (10_state.md, 61_scheduler.md, 62_video.md,
63_audio.md, the table of R600), the ways a step can stop, and the state after reset.
-/

namespace Sys2Proof.Machine

/-- The CPU's control state (R47). -/
inductive CpuMode where
  | running
  | jammed
deriving DecidableEq, Repr

/-- The envelope phases (R553). -/
inductive AdsrPhase where
  | attack
  | decaySustain
  | release
deriving DecidableEq, Repr

/-- One audio channel (R553). -/
structure Channel where
  acc      : BitVec 24
  lfsr     : BitVec 23
  env      : Byte
  adsr     : AdsrPhase
  rateCtr  : Nat
  expCtr   : Nat
  gatePrev : Bool
deriving DecidableEq, Repr

/-- The audio unit's state (R553). Samples and the filter's accumulators are real numbers, as terms (log entry 6). -/
structure Audio where
  ch0       : Channel
  ch1       : Channel
  ch2       : Channel
  lp        : RealTerm
  bp        : RealTerm
  lastCycle : Nat
  sampleAcc : Nat
  /-- The sample queue (R580), oldest sample first. -/
  queue     : List RealTerm
  lastOut   : RealTerm
  underruns : Nat
deriving DecidableEq, Repr

/-- `spriteActive[i]` and `spriteRow[i]` (R502). -/
structure Sprite where
  active : Bool
  row    : Nat
deriving DecidableEq, Repr

/-- The video unit's internal state (R502). Its registers are SHADOW bytes (R500). -/
structure Video where
  fetchedRows : Nat
  curRow      : Nat
  rc          : Nat
  displayOn   : Bool
  screenRow   : List Byte
  colorRow    : List Pixel
  sprites     : List Sprite
  front       : List (List Pixel)
  back        : List (List Pixel)
deriving DecidableEq, Repr

/-- The events a CPU step can produce (R414), for observation only. -/
inductive Event where
  /-- EV_RESET. -/
  | reset
  /-- EV_NMI, with the pushed PC and the pushed P. -/
  | nmi (pc : Addr) (p : Byte)
  /-- EV_IRQ, with the pushed PC and the pushed P. -/
  | irq (pc : Addr) (p : Byte)
  /-- EV_BRK, with the pushed PC and the pushed P. -/
  | brk (pc : Addr) (p : Byte)
  /-- EV_TRAP, with the trap address. -/
  | trap (addr : Addr)
  /-- EV_JAM, with the PC after the jam opcode. -/
  | jam (pc : Addr)
  /-- EV_UNDECODED, with the opcode byte. -/
  | undecoded (op : Byte)
deriving DecidableEq, Repr

/-- What the outside world can do to the block between two steps (R9, R401, R580, R602). -/
inductive HostAction where
  /-- No more actions before the next step: the block goes on. -/
  | pause
  /-- `reset()` (R402). -/
  | requestReset
  /-- An NMI request (R410). -/
  | requestNmi
  /-- Sets irqPending outside `runFrame` (R456). -/
  | driveIrq (level : Bool)
  /-- `runFrame()` (R450). -/
  | requestFrame
  /-- The boot step (R470), with the bytes of the first directory entry's file, if there is one. -/
  | loadImage (file : Option (List Byte))
  /-- The audio consumer asks for k samples (R580, R582). -/
  | consume (k : Nat)
deriving DecidableEq, Repr

/-- Where the block is in the loop of R450 and R452. The model's own field: the spec writes it as a program. -/
inductive Phase where
  /-- Outside `runFrame`. -/
  | idle
  /-- About to begin line n. -/
  | lineStart (n : Nat)
  /-- In the `while cycles < lineTarget` loop of the current line. -/
  | cpuLoop
  /-- After the last line, before the audio flush and the swap. -/
  | frameEnd
deriving DecidableEq, Repr

/-- The state of the block. -/
structure State where
  -- CPU registers and flags (R40, R43, R44)
  a            : Byte
  x            : Byte
  y            : Byte
  sp           : Byte
  pc           : Addr
  flags        : Flags
  -- CPU control state (R46, R47, R48)
  cycles       : Nat
  mode         : CpuMode
  resetPending : Bool
  nmiPending   : Bool
  irqPending   : Bool
  -- the bus (R50)
  ram          : Memory
  shadow       : Memory
  -- the scheduler and the CIA timer (R449)
  line          : Nat
  lineTarget    : Nat
  rasterLatched : Bool
  timerLatched  : Bool
  timerLatch    : BitVec 16
  timerCounter  : Int
  icrMask       : BitVec 5
  -- the video and audio units (R502, R553)
  video        : Video
  audio        : Audio
  -- the model's own: the loop's position, frames asked for, the host's actions to come, the event record,
  -- how many free values were drawn, and the configuration
  phase         : Phase
  frameRequests : Nat
  hostActions   : List HostAction
  events        : List Event
  draws         : Nat
  params        : Params
deriving DecidableEq, Repr

/-- The reasons a step can stop with a fault. There is none: "No instruction faults: there are no memory, alignment,
privilege or arithmetic exceptions" (60_exceptions.md, before R400; R412, R422). -/
inductive Fault where
deriving DecidableEq, Repr

/-- The reasons a step is refused. -/
inductive Refusal where
  /-- Raised by an arm of exec whose instruction has no meaning yet; none is left. Safe: the model stops. -/
  | notModelled (mnemonic : String)
  /-- Raised by the meaning of an unstable illegal opcode that the parameters put into ILLEGAL_SET: the spec gives no
  value for its result and says it must be refused (R367, R371 to R377). Safe: the model stops. -/
  | unstableIllegal (opcode : Byte)
deriving DecidableEq, Repr

/-- The outcome of a step of this machine. -/
abbrev Result := Host.Outcome State Fault Refusal

/-- An audio channel at creation (R554). -/
def Channel.creation : Channel :=
  { acc := 0, lfsr := 0x7FFFF8, env := 0, adsr := .release, rateCtr := 0, expCtr := 0, gatePrev := false }

/-- The audio unit at creation (R554). -/
def Audio.creation : Audio :=
  { ch0 := .creation, ch1 := .creation, ch2 := .creation, lp := .rat 0, bp := .rat 0, lastCycle := 0, sampleAcc := 0,
    queue := [], lastOut := .rat 0, underruns := 0 }

/-- A surface with every pixel 0 (R502): 200 rows of 320 columns. -/
def blankSurface : List (List Pixel) := List.replicate 200 (List.replicate 320 0)

/-- The video unit at creation (R502). -/
def Video.creation : Video :=
  { fetchedRows := 0, curRow := 0, rc := 0, displayOn := false, screenRow := List.replicate 40 0,
    colorRow := List.replicate 40 0, sprites := List.replicate 8 ⟨false, 0⟩, front := blankSurface,
    back := blankSurface }

/-- The block at creation (R600), with the POWER_ON draws of log entries 1 and 2. -/
def State.creation : State :=
  { a := powerOnA, x := powerOnX, y := powerOnY, sp := powerOnS, pc := 0, flags := powerOnFlags,
    cycles := 0, mode := .running, resetPending := true, nmiPending := false, irqPending := false,
    ram := [], shadow := [],
    line := 0, lineTarget := 0, rasterLatched := false, timerLatched := false, timerLatch := 0xFFFF,
    timerCounter := 0xFFFF, icrMask := 0,
    video := .creation, audio := .creation,
    phase := .idle, frameRequests := 0, hostActions := [], events := [], draws := 0, params := defaultParams }

/-- The block right after the reset step that follows creation (R402, R600): I set, the PC from the reset vector
(two cells of RAM that nothing has written), nothing pending, RESET_CYCLES consumed. -/
def State.reset : State :=
  { State.creation with
    resetPending := false
    nmiPending := false
    irqPending := false
    flags := { powerOnFlags with i := true }
    pc := Memory.blank ++ Memory.blank
    mode := .running
    cycles := defaultParams.resetCycles
    events := [.reset] }

end Sys2Proof.Machine
end

