-- ==== Sys2Proof/Machine/Audio.lean ====
section
/-!
DEFINITION. Machine/Audio.lean: oscillators, envelopes, filter, mixer, sample cadence and sample queue (63_audio.md).
Every function takes SHADOW as the registers: a `bufferSamples` call reads them once (R550), and nothing writes SHADOW
while a call runs.
-/

namespace Sys2Proof.Machine

/-! ## Registers (R551) -/

/-- The audio register at an offset from $D400 (R550). -/
def audioReg (sh : Memory) (off : Nat) : Byte := sh.read (0x400 + off)

/-- `freq[i]`. -/
def audioFreq (sh : Memory) (i : Nat) : BitVec 16 := mkAddr (audioReg sh (7 * i)) (audioReg sh (7 * i + 1))

/-- `pw[i]`, 12 bits: bits 7:4 of the high register have no effect. -/
def audioPulseWidth (sh : Memory) (i : Nat) : BitVec 12 :=
  (mkAddr (audioReg sh (7 * i + 2)) (audioReg sh (7 * i + 3))).setWidth 12

/-- The control register of channel i. -/
def audioControl (sh : Memory) (i : Nat) : Byte := audioReg sh (7 * i + 4)

/-- Attack rate A of channel i. -/
def attackRate (sh : Memory) (i : Nat) : Nat := (audioReg sh (7 * i + 5)).toNat / 16

/-- Decay rate D of channel i. -/
def decayRate (sh : Memory) (i : Nat) : Nat := (audioReg sh (7 * i + 5)).toNat % 16

/-- The sustain level of channel i: "maps the sustain nibble S to the level `S * 0x11`" (R566). -/
def sustainLevel (sh : Memory) (i : Nat) : Nat := (audioReg sh (7 * i + 6)).toNat / 16 * 0x11

/-- Release rate R of channel i. -/
def releaseRate (sh : Memory) (i : Nat) : Nat := (audioReg sh (7 * i + 6)).toNat % 16

/-- The cutoff `fc`, 11 bits (R574). -/
def cutoff (sh : Memory) : Nat := (audioReg sh 0x16).toNat * 8 + (audioReg sh 0x15).toNat % 8

/-- The resonance `res` (R574). -/
def resonance (sh : Memory) : Nat := (audioReg sh 0x17).toNat / 16

/-- Is channel i routed through the filter ($D417)? -/
def routed (sh : Memory) (i : Nat) : Bool := (audioReg sh 0x17).getLsbD i

/-- A bit of the mode/volume register ($D418). -/
def modeBit (sh : Memory) (k : Nat) : Bool := (audioReg sh 0x18).getLsbD k

/-- The master volume `vol`. -/
def masterVolume (sh : Memory) : Nat := (audioReg sh 0x18).toNat % 16

/-- Bits of a control register (R551). -/
def gateBit (ctl : Byte) : Bool := ctl.getLsbD 0
def syncBit (ctl : Byte) : Bool := ctl.getLsbD 1
def ringBit (ctl : Byte) : Bool := ctl.getLsbD 2
def testBit (ctl : Byte) : Bool := ctl.getLsbD 3

/-! ## Oscillators (R560 to R564) -/

/-- One clock of the noise register (R561). -/
def clockNoise (l : BitVec 23) : BitVec 23 :=
  (l <<< 1) ||| (if l.getLsbD 22 ^^ l.getLsbD 17 then 1#23 else 0#23)

/-- The 8-bit noise output: bits 22, 20, 16, 13, 11, 7, 4, 2 (R561). -/
def noiseOut (l : BitVec 23) : Byte :=
  BitVec.ofNat 8 (128 * (l.getLsbD 22).toNat + 64 * (l.getLsbD 20).toNat + 32 * (l.getLsbD 16).toNat +
    16 * (l.getLsbD 13).toNat + 8 * (l.getLsbD 11).toNat + 4 * (l.getLsbD 7).toNat +
    2 * (l.getLsbD 4).toNat + (l.getLsbD 2).toNat)

/-- The phase accumulator advance, and whether bit 23 rose (R560). -/
def clockOsc (ctl : Byte) (freq : BitVec 16) (ch : Channel) : Channel × Bool :=
  if testBit ctl then
    ({ ch with acc := 0, lfsr := 0x7FFFF8 }, false)
  else
    let acc := ch.acc + freq.setWidth 24
    let lfsr := if !ch.acc.getLsbD 19 && acc.getLsbD 19 then clockNoise ch.lfsr else ch.lfsr
    ({ ch with acc := acc, lfsr := lfsr }, !ch.acc.getLsbD 23 && acc.getLsbD 23)

/-- Hard sync (R562): the channel is reset if its neighbour's bit 23 rose and its own sync bit is set. -/
def applySync (neighbourRose : Bool) (ctl : Byte) (ch : Channel) : Channel :=
  if neighbourRose && syncBit ctl then { ch with acc := 0 } else ch

/-- The sawtooth output (R564). -/
def sawWave (acc : BitVec 24) : BitVec 12 := (acc >>> 12).setWidth 12

/-- The triangle output, with `msb` from R563 (R564). -/
def triangleWave (msb : Bool) (acc : BitVec 24) : BitVec 12 :=
  ((if msb then ~~~acc else acc) >>> 11).setWidth 12

/-- The pulse output (R564). -/
def pulseWave (ctl : Byte) (pw : BitVec 12) (acc : BitVec 24) : BitVec 12 :=
  if testBit ctl || decide (pw ≤ sawWave acc) then 0xFFF else 0x000

/-- The noise output (R564). -/
def noiseWave (l : BitVec 23) : BitVec 12 := (noiseOut l).setWidth 12 <<< 4

/-- Is at least one waveform bit set (R573)? -/
def waveSelected (ctl : Byte) : Bool :=
  ctl.getLsbD 4 || ctl.getLsbD 5 || ctl.getLsbD 6 || ctl.getLsbD 7

/-- The bitwise AND of the outputs a control register selects (R564). -/
def andOfSelected (ctl : Byte) (tri saw pulse noise : BitVec 12) : BitVec 12 :=
  (if ctl.getLsbD 4 then tri else 0xFFF) &&& (if ctl.getLsbD 5 then saw else 0xFFF) &&&
  (if ctl.getLsbD 6 then pulse else 0xFFF) &&& (if ctl.getLsbD 7 then noise else 0xFFF)

/-- Are two or more waveform bits set (R564)? -/
def severalSelected (ctl : Byte) : Bool :=
  decide (2 ≤ (ctl.getLsbD 4).toNat + (ctl.getLsbD 5).toNat + (ctl.getLsbD 6).toNat + (ctl.getLsbD 7).toNat)

/-- The selected waveform, or COMBINED_WAVE of the selected ones (R564). `ringSource` is the channel whose bit 23 ring
modulation uses (R563). -/
def waveOf (p : Params) (ctl : Byte) (pw : BitVec 12) (ch ringSource : Channel) : BitVec 12 :=
  let msb := if ringBit ctl then ch.acc.getLsbD 23 ^^ ringSource.acc.getLsbD 23 else ch.acc.getLsbD 23
  let tri := triangleWave msb ch.acc
  let saw := sawWave ch.acc
  let pulse := pulseWave ctl pw ch.acc
  let noise := noiseWave ch.lfsr
  if severalSelected ctl then
    match p.combinedWave with
    | .bitwiseAnd => andOfSelected ctl tri saw pulse noise
    | .host => Config.combinedWave ctl tri saw pulse noise
  else andOfSelected ctl tri saw pulse noise

/-! ## Envelopes (R558, R566, R568) -/

/-- The rate table, cycles per envelope step (R566). -/
def rateTable : List Nat :=
  [9, 32, 63, 95, 149, 220, 267, 313] ++ [392, 977, 1954, 3126, 3907, 11720, 19532, 31251]

/-- The rate table entry of a rate value 0 to 15 (R566). -/
def ratePeriod (rate : Nat) : Nat := rateTable.getD rate 31251

/-- `expPeriod(e)` (R568). -/
def expPeriod (e : Nat) : Nat :=
  if 0x5D < e then 1 else if 0x36 < e then 2 else if 0x1A < e then 4 else if 0x0E < e then 8
  else if 0x06 < e then 16 else 30

/-- `gateEdge(i)`, at the start of each call (R558). -/
def gateEdge (ctl : Byte) (ch : Channel) : Channel :=
  let g := gateBit ctl
  { ch with
    adsr := if g && !ch.gatePrev then .attack else if !g && ch.gatePrev then .release else ch.adsr
    gatePrev := g }

/-- The envelope period by phase (R568). -/
def envPeriod (sh : Memory) (i : Nat) (p : AdsrPhase) : Nat :=
  match p with
  | .attack => ratePeriod (attackRate sh i)
  | .decaySustain => ratePeriod (decayRate sh i)
  | .release => ratePeriod (releaseRate sh i)

/-- The attack step: the level rises to 0xFF, where the phase becomes DECAY_SUSTAIN (R568). -/
def attackStep (ch : Channel) : Channel :=
  let env := if ch.env = 0xFF then ch.env else ch.env + 1
  { ch with env := env, adsr := if env = 0xFF then .decaySustain else .attack }

/-- The decay or release step, once the exponential divider has fired (R568). -/
def fallStep (sustain : Nat) (ch : Channel) : Channel :=
  match ch.adsr with
  | .attack => ch
  | .decaySustain => if sustain < ch.env.toNat then { ch with env := ch.env - 1 } else ch
  | .release => if 0 < ch.env.toNat then { ch with env := ch.env - 1 } else ch

/-- `clockEnv(i)`, once per cycle (R568). -/
def clockEnv (sh : Memory) (i : Nat) (ch : Channel) : Channel :=
  if ch.rateCtr + 1 < envPeriod sh i ch.adsr then { ch with rateCtr := ch.rateCtr + 1 }
  else
    match ch.adsr with
    | .attack => attackStep { ch with rateCtr := 0 }
    | _ =>
      if ch.expCtr + 1 < expPeriod ch.env.toNat then { ch with rateCtr := 0, expCtr := ch.expCtr + 1 }
      else fallStep (sustainLevel sh i) { ch with rateCtr := 0, expCtr := 0 }

/-! ## Mixing, filter and output (R573 to R576) -/

/-- `v[i]` (R573). -/
def channelSignal (p : Params) (ctl : Byte) (pw : BitVec 12) (ch ringSource : Channel) : Int :=
  if waveSelected ctl then (((waveOf p ctl pw ch ringSource).toNat : Int) - 2048) * (ch.env.toNat : Int) else 0

/-- `v[0]`, `v[1]`, `v[2]`: channel i is ring modulated by channel (i + 2) mod 3 (R563). -/
def signals (p : Params) (sh : Memory) (au : Audio) : Int × Int × Int :=
  (channelSignal p (audioControl sh 0) (audioPulseWidth sh 0) au.ch0 au.ch2,
   channelSignal p (audioControl sh 1) (audioPulseWidth sh 1) au.ch1 au.ch0,
   channelSignal p (audioControl sh 2) (audioPulseWidth sh 2) au.ch2 au.ch1)

/-- `fin`, the sum of the routed signals (R573). -/
def filterInput (p : Params) (sh : Memory) (au : Audio) : Int :=
  let (v0, v1, v2) := signals p sh au
  (if routed sh 0 then v0 else 0) + (if routed sh 1 then v1 else 0) + (if routed sh 2 then v2 else 0)

/-- `dir`, the sum of the others; channel 2 is left out when 3OFF is set (R573). -/
def directPath (p : Params) (sh : Memory) (au : Audio) : Int :=
  let (v0, v1, v2) := signals p sh au
  (if routed sh 0 then 0 else v0) + (if routed sh 1 then 0 else v1) +
    (if routed sh 2 || modeBit sh 7 then 0 else v2)

/-- The coefficient `f` of R574's formula. Where `cutoffHz` is `rate / 6` or more, that is where `400 ^ fc` times `180 ^ 2047` is
`rate ^ 2047` or more, it is `2 * sin(pi / 6)`, which is 1. -/
def formulaF (rate fc : Nat) : RealTerm :=
  if rate ^ 2047 ≤ 180 ^ 2047 * 400 ^ fc then .rat 1 else .formulaF rate fc

/-- The coefficient `q` of R574's formula, `sqrt(2) - res * (sqrt(2) - 0.1) / 15`. -/
def formulaQ (res : Nat) : RealTerm := .add (.scale (1 - res / 15) .sqrtTwo) (.rat (res / 150))

/-- FILTER_COEFF (R574): the default formula, or the host's own map. -/
def filterCoeff (p : Params) (fc res : Nat) : RealTerm × RealTerm :=
  match p.filterPolicy with
  | .formula => (formulaF p.sampleRateHz fc, formulaQ res)
  | .host => (.hostF p.sampleRateHz fc res, .hostQ p.sampleRateHz fc res)

/-- One run of the state-variable filter (R574): the new `bp` and `lp`, and `hp`. -/
def filterStep (f q fin lp bp : RealTerm) : RealTerm × RealTerm × RealTerm :=
  let hp := (fin.sub lp).sub (q.mul bp)
  let bp' := bp.add (f.mul hp)
  (bp', lp.add (f.mul bp'), hp)

/-- `fout`, by the mode bits of $D418 (R574). -/
def filterOutput (sh : Memory) (lp bp hp : RealTerm) : RealTerm :=
  .add (.add (if modeBit sh 4 then lp else .rat 0) (if modeBit sh 5 then bp else .rat 0))
    (if modeBit sh 6 then hp else .rat 0)

/-- The sample of a mixed value: `clamp(v * vol / (15 * 3 * 2048 * 255), -1, 1)` (R576). -/
def normalise (v : RealTerm) (vol : Nat) : RealTerm := .clampUnit (.scale (vol / (15 * 3 * 2048 * 255)) v)

/-- `computeSample()` (R573 to R576). -/
def computeSample (p : Params) (sh : Memory) (au : Audio) : Audio × RealTerm :=
  let (f, q) := filterCoeff p (cutoff sh) (resonance sh)
  let (bp, lp, hp) := filterStep f q (.rat (filterInput p sh au)) au.lp au.bp
  ({ au with bp := bp, lp := lp },
   normalise (.add (.rat (directPath p sh au)) (filterOutput sh lp bp hp)) (masterVolume sh))

/-! ## Buffering (R552, R556) -/

/-- One cycle of a channel: its oscillator, then its envelope (R556). -/
def clockChannel (sh : Memory) (i : Nat) (ch : Channel) : Channel × Bool :=
  let (ch, rose) := clockOsc (audioControl sh i) (audioFreq sh i) ch
  (clockEnv sh i ch, rose)

/-- One cycle of the three channels, then the sync resets: channel (i + 1) mod 3 by channel i (R556, R562). -/
def clockChannels (sh : Memory) (au : Audio) : Audio :=
  let (c0, r0) := clockChannel sh 0 au.ch0
  let (c1, r1) := clockChannel sh 1 au.ch1
  let (c2, r2) := clockChannel sh 2 au.ch2
  { au with
    ch0 := applySync r2 (audioControl sh 0) c0
    ch1 := applySync r0 (audioControl sh 1) c1
    ch2 := applySync r1 (audioControl sh 2) c2 }

/-- One rendered cycle, and the sample it produces, if the cadence fires (R556, R572). -/
def audioCycle (p : Params) (sh : Memory) (au : Audio) : Audio × List RealTerm :=
  let au := clockChannels sh au
  let acc := au.sampleAcc + p.sampleRateHz
  if p.cpuClockHz ≤ acc then
    let (au, sample) := computeSample p sh { au with sampleAcc := acc - p.cpuClockHz }
    (au, [sample])
  else ({ au with sampleAcc := acc }, [])

/-- m rendered cycles, and the batch of samples they produce (R556). -/
def renderCycles (p : Params) (sh : Memory) : Nat → Audio → Audio × List RealTerm
  | 0, au => (au, [])
  | m + 1, au =>
    let (au, first) := audioCycle p sh au
    let (au, rest) := renderCycles p sh m au
    (au, first ++ rest)

/-- The gate edges of the three channels (R556). -/
def gateEdges (sh : Memory) (au : Audio) : Audio :=
  { au with
    ch0 := gateEdge (audioControl sh 0) au.ch0
    ch1 := gateEdge (audioControl sh 1) au.ch1
    ch2 := gateEdge (audioControl sh 2) au.ch2 }

/-- `bufferSamples(m)` (R556): the batch is appended to the queue whole (R580). -/
def bufferSamples (p : Params) (sh : Memory) (m : Nat) (au : Audio) : Audio :=
  let (au, batch) := renderCycles p sh m (gateEdges sh au)
  { au with queue := au.queue ++ batch }

/-- The upper end of RATE_POLICY's target band (R578). -/
def rateBandHigh : Nat := Config.rateBandLow + Config.rateBandWidth

/-- RATE_POLICY (R578): m = n inside the target band, m ≥ n at a short queue, m ≤ n at a long one. -/
def rateCycles (policy : RatePolicy) (n queueLength : Nat) : Nat :=
  match policy with
  | .identity => n
  | .host =>
    if queueLength < Config.rateBandLow then n + Config.rateStretch n queueLength
    else if rateBandHigh < queueLength then n - Config.rateSqueeze n queueLength
    else n

/-- `audioFlush(now, frameEnd)` on the audio unit (R552). -/
def flushAudio (p : Params) (sh : Memory) (now : Nat) (frameEnd : Bool) (au : Audio) : Audio :=
  let n := now - au.lastCycle
  let m := if frameEnd then rateCycles p.ratePolicy n au.queue.length else n
  bufferSamples p sh m { au with lastCycle := now }

/-! ## The consumer (R580, R582) -/

/-- The consumer asks for k samples: what it is given, and the unit after it (R582). -/
def consumeSamples (k : Nat) (au : Audio) : List RealTerm × Audio :=
  let taken := au.queue.take k
  let last := taken.getLastD au.lastOut
  let short := k - au.queue.length
  (taken ++ List.replicate short last,
   { au with
     queue := au.queue.drop k
     lastOut := last
     underruns := au.underruns + (if short = 0 then 0 else 1) })

end Sys2Proof.Machine
end

