-- ==== Sys2Proof/Machine/Ops.lean ====
section
/-!
DEFINITION. Machine/Ops.lean: the named operations every meaning uses: the bus with its interceptions (20_memory.md), the
stack, the packed status byte, taking an interrupt and returning from one, the reset step, the kernal trap and the
undecoded opcode (60_exceptions.md), and the shapes of a meaning (40_load_store_transfer.md R200, 20_memory.md R93).
-/

namespace Sys2Proof.Machine

/-! ## Small updates -/

/-- `cycles <- cycles + n` (R12, R46). -/
def State.addCycles (n : Nat) (s : State) : State := { s with cycles := s.cycles + n }

/-- Records an event (R414). -/
def State.record (e : Event) (s : State) : State := { s with events := e :: s.events }

/-! ## The bus (R82 to R88, R107) -/

/-- `isIO(a)`: the address is routed to the I/O shadow (R82), by the control byte of this moment (R83). -/
def isIO (a : Addr) (s : State) : Bool :=
  (s.ram.read s.params.bankCtrlAddr.toNat &&& 0x03) != 0 && decide (ioLo ≤ a.toNat) && decide (a.toNat < ioHi)

/-- The offset of an I/O address in SHADOW (R85). -/
def shadowOffset (a : Addr) : Nat := a.toNat - ioLo

/-- The value of a read of $D011: the stored byte with the line's bit 8 as bit 7 (R462). -/
def readControl1 (s : State) : Byte :=
  (s.shadow.read 0x011 &&& 0x7F) ||| BitVec.ofNat 8 (s.line / 256 % 2 * 128)

/-- The value of a read of $D019 (R464). -/
def readRasterStatus (s : State) : Byte := 0x70 ||| (if s.rasterLatched then 0x81 else 0x00)

/-- The value of a read of $DC0D (R466). -/
def readTimerStatus (s : State) : Byte := if s.timerLatched then 0x81 else 0x00

/-- The block's read interception (R88): the value and the state after, or none where it declines. -/
def readIntercept (a : Addr) (s : State) : Option (Byte × State) :=
  if a = 0xD011 then some (readControl1 s, s)
  else if a = 0xD012 then some (BitVec.ofNat 8 s.line, s)
  else if a = 0xD019 then some (readRasterStatus s, s)
  else if a = 0xDC00 then some (Config.inputJoy2 s.draws, { s with draws := s.draws + 1 })
  else if a = 0xDC01 then
    some (Config.inputKeys s.draws (s.shadow.read 0xC00) &&& Config.inputJoy1 s.draws, { s with draws := s.draws + 1 })
  else if a = 0xDC0D then some (readTimerStatus s, { s with timerLatched := false })
  else none

/-- A read interception of the host's own: a draw, which may ask for a reset (R9, R602). -/
def hostReadIntercept (a : Addr) (s : State) : Option (Byte × State) × State :=
  let reply := Config.readCallback s.draws a
  let s := { s with draws := s.draws + 1, resetPending := s.resetPending || reply.reset }
  (reply.handled.map fun v => (v, s), s)

/-- The read interception that is registered (R52, R84): what it answers, or none where it declines or is absent, and the
state in which the stored byte is then read. -/
def interceptRead (a : Addr) (s : State) : Option (Byte × State) × State :=
  match s.params.readCallback with
  | .absent => (none, s)
  | .block => (readIntercept a s, s)
  | .host => hostReadIntercept a s

/-- `MemRead(a, 1)` (R84): the byte, and the state after the interception. -/
def memRead (a : Addr) (s : State) : Byte × State :=
  if isIO a s then
    match interceptRead a s with
    | (some r, _) => r
    | (none, s) => (s.shadow.read (shadowOffset a), s)
  else (s.ram.read a.toNat, s)

/-- `audioFlush(now, frameEnd)` with `now` the CPU's cycle count (R552). -/
def audioFlush (frameEnd : Bool) (s : State) : State :=
  { s with audio := flushAudio s.params s.shadow s.cycles frameEnd s.audio }

/-- A write of the timer latch's low byte, $DC04 (R460). -/
def writeTimerLow (v : Byte) (s : State) : State :=
  { s with timerLatch := mkAddr v (hiByte s.timerLatch) }

/-- A write of the timer latch's high byte, $DC05; with the timer stopped the counter is loaded too (R460). -/
def writeTimerHigh (v : Byte) (s : State) : State :=
  let latch := mkAddr (loByte s.timerLatch) v
  { s with
    timerLatch := latch
    timerCounter := if (s.shadow.read 0xC0E).getLsbD 0 then s.timerCounter else (latch.toNat : Int) }

/-- A write of the interrupt control register, $DC0D (R460). -/
def writeTimerMask (v : Byte) (s : State) : State :=
  { s with icrMask := if v.getLsbD 7 then s.icrMask ||| v.setWidth 5 else s.icrMask &&& ~~~(v.setWidth 5) }

/-- A write of the timer control register, $DC0E: bit 4 forces a load (R460). -/
def writeTimerControl (v : Byte) (s : State) : State :=
  { s with timerCounter := if v.getLsbD 4 then (s.timerLatch.toNat : Int) else s.timerCounter }

/-- The block's write interception, before the store (R107). -/
def writeIntercept (a : Addr) (v : Byte) (s : State) : State :=
  if a = 0xD019 then { s with rasterLatched := false }
  else if a = 0xDC04 then writeTimerLow v s
  else if a = 0xDC05 then writeTimerHigh v s
  else if a = 0xDC0D then writeTimerMask v s
  else if a = 0xDC0E then writeTimerControl v s
  else if 0xD400 ≤ a.toNat ∧ a.toNat ≤ 0xD41F then audioFlush false s
  else s

/-- A write interception of the host's own: a draw, which may ask for a reset (R9, R602). -/
def hostWriteIntercept (a : Addr) (v : Byte) (s : State) : State :=
  { s with
    draws := s.draws + 1
    resetPending := s.resetPending || Config.writeCallback s.draws a v }

/-- The write interception that is registered, if one is (R52, R86). -/
def interceptWrite (a : Addr) (v : Byte) (s : State) : State :=
  match s.params.writeCallback with
  | .absent => s
  | .block => writeIntercept a v s
  | .host => hostWriteIntercept a v s

/-- The store into SHADOW (R86). -/
def storeShadow (a : Addr) (v : Byte) (s : State) : State :=
  { s with shadow := s.shadow.write (shadowOffset a) v }

/-- The store into RAM (R86, R89). -/
def storeRam (a : Addr) (v : Byte) (s : State) : State :=
  { s with ram := s.ram.write a.toNat v }

/-- `MemWrite(a, 1, v)` (R86). -/
def memWrite (a : Addr) (v : Byte) (s : State) : State :=
  if isIO a s then storeShadow a v (interceptWrite a v s) else storeRam a v s

/-- `MemRead(a, 2)`, low byte first (R90). -/
def memRead16 (a : Addr) (s : State) : Addr × State :=
  let (lo, s) := memRead a s
  let (hi, s) := memRead (a + 1) s
  (mkAddr lo hi, s)

/-- `Fetch()` (R14, R104). -/
def fetch (s : State) : Byte × State :=
  let (v, s) := memRead s.pc s
  (v, { s with pc := s.pc + 1 })

/-! ## The stack (R14, R98) -/

/-- The address of a stack cell, `0x0100 | S`. -/
def stackAddr (sp : Byte) : Addr := mkAddr sp 0x01

/-- `Push(v)`. -/
def push (v : Byte) (s : State) : State :=
  let s := memWrite (stackAddr s.sp) v s
  { s with sp := s.sp - 1 }

/-- `Pull()`. -/
def pull (s : State) : Byte × State :=
  let s := { s with sp := s.sp + 1 }
  memRead (stackAddr s.sp) s

/-- Pushes an address, high byte first (R91). -/
def pushAddr (a : Addr) (s : State) : State := push (loByte a) (push (hiByte a) s)

/-- Pulls an address, low byte first (R311). -/
def pullAddr (s : State) : Addr × State :=
  let (lo, s) := pull s
  let (hi, s) := pull s
  (mkAddr lo hi, s)

/-! ## The packed status byte (R43, R44) -/

/-- Bit k of a byte, set where b is. -/
def flagBit (b : Bool) (k : Nat) : Byte := if b then 1#8 <<< k else 0#8

/-- `GetP()`: bits 5 and 4 read 1 (R43). -/
def getP (f : Flags) : Byte :=
  flagBit f.n 7 ||| flagBit f.v 6 ||| 0x30 ||| flagBit f.d 3 ||| flagBit f.i 2 ||| flagBit f.z 1 ||| flagBit f.c 0

/-- The flags `SetP(v)` writes: bits 5 and 4 are ignored (R44). -/
def flagsOfP (v : Byte) : Flags :=
  { c := v.getLsbD 0, z := v.getLsbD 1, i := v.getLsbD 2, d := v.getLsbD 3, v := v.getLsbD 6, n := v.getLsbD 7 }

/-- `SetP(v)` (R44). -/
def setP (v : Byte) (s : State) : State := { s with flags := flagsOfP v }

/-- `I <- 1`. -/
def setI (s : State) : State := { s with flags := { s.flags with i := true } }

/-! ## Taking an interrupt and returning from one (R408, R313, R312) -/

/-- What an interrupt entry and BRK share: push the PC high byte first, push the status byte, set I, read the vector;
D is unchanged (R408, R313, R612). The event records what was pushed (R414). -/
def takeInterrupt (vec ret : Addr) (p : Byte) (ev : Addr → Byte → Event) (cost : Nat) (s : State) : State :=
  let s := setI (push p (pushAddr ret s))
  let (target, s) := memRead16 vec s
  ({ s with pc := target }.record (ev ret p)).addCycles cost

/-- `enterInterrupt(vec)`: the pushed status has the break flag masked off (R408). -/
def enterInterrupt (vec : Addr) (ev : Addr → Byte → Event) (s : State) : State :=
  takeInterrupt vec s.pc (getP s.flags &&& 0xEF) ev s.params.intCycles s

/-- The return from an interrupt: the flags, then the PC, from the stack (R312). -/
def returnFromInterrupt (s : State) : State :=
  let (p, s) := pull s
  let (target, s) := pullAddr (setP p s)
  { s with pc := target }

/-- The return from a subroutine: the pulled address plus one (R311). -/
def returnFromSubroutine (s : State) : State :=
  let (ret, s) := pullAddr s
  { s with pc := ret + 1 }

/-- `doReset()` (R402). -/
def doReset (s : State) : State :=
  let s := setI { s with resetPending := false, nmiPending := false, irqPending := false }
  let (target, s) := memRead16 s.params.vecReset s
  ({ s with pc := target, mode := .running }.record .reset).addCycles s.params.resetCycles

/-- A step in JAMMED mode: "no-ops apart from clearing pending interrupts" (R416). -/
def jammedIdle (s : State) : State :=
  { s with nmiPending := false, irqPending := false }.addCycles s.params.jamStepCycles

/-! ## The kernal trap (R418, R420) -/

/-- What the callback sees (R420). -/
def trapView (addr : Addr) (s : State) : Config.TrapView :=
  { addr := addr, a := s.a, x := s.x, y := s.y, sp := s.sp, flags := s.flags, cycles := s.cycles, ram := s.ram, shadow := s.shadow }

/-- The callback's effect on the block (R420, R602). -/
def applyTrap (r : Config.TrapResult) (s : State) : State :=
  { s with
    a := r.a
    x := r.x
    y := r.y
    sp := r.sp
    flags := r.flags
    ram := s.ram.writeAll (r.ramWrites.map fun w => (w.1.toNat, w.2))
    shadow := s.shadow.writeAll (r.shadowWrites.map fun w => (w.1.toNat, w.2))
    resetPending := s.resetPending || r.reset
    draws := s.draws + 1 }

/-- The call of the trap callback, if one is registered (R418). -/
def callTrap (addr : Addr) (s : State) : State :=
  if s.params.trapCallback then applyTrap (Config.trapEffect s.draws (trapView addr s)) s else s

/-! ## Opcodes that are not decoded (R350, R370) -/

/-- The undecoded opcode: a warning, and the PC at the opcode's address plus UNDECODED_LEN (R370). The step has fetched
the opcode byte alone, so the PC stands one past it. -/
def undecoded (op : Byte) (s : State) : State :=
  ({ s with pc := s.pc - 1 + BitVec.ofNat 16 s.params.undecodedLen }.record (.undecoded op)).addCycles
    s.params.undecodedCycles

/-- An illegal opcode: its rule where ILLEGAL_SET holds it, else undecoded (R350). -/
def ifInIllegalSet (op : Byte) (meaning : State → Result) (s : State) : Result :=
  if s.params.illegalSet.contains op then meaning s else .next (undecoded op s)

/-- An unstable illegal opcode: refused where ILLEGAL_SET holds it, else undecoded (R367). -/
def unstableOpcode (op : Byte) (s : State) : Result :=
  if s.params.illegalSet.contains op then .refused (.unstableIllegal op) else .next (undecoded op s)

/-! ## Shapes of a meaning (R93, R200)

exec is given the state in which the whole instruction has been fetched: the PC stands at the next instruction. -/

/-- An effective address, and whether indexing crossed a page (R140 to R147). -/
structure Ea where
  addr    : Addr
  crossed : Bool
deriving DecidableEq, Repr

/-- A base cost, plus 1 if the address crossed a page: for the rows with a page penalty (R150, R620). Only indexed modes
ever cross. -/
def Ea.cost (base : Nat) (e : Ea) : Nat := base + (if e.crossed then 1 else 0)

/-- An instruction that touches no memory: its effect, then its cost. -/
def complete (cost : Nat) (s : State) : Result := .next (s.addCycles cost)

/-- A reading instruction: one MemRead at EA, then what it does with the byte (R93). -/
def readThen (e : Ea) (base : Nat) (f : Byte → State → State) (s : State) : Result :=
  let (v, s) := memRead e.addr s
  complete (e.cost base) (f v s)

/-- A storing instruction: one MemWrite at EA, no penalty (R93, R204). -/
def storeAt (e : Ea) (cost : Nat) (v : Byte) (s : State) : Result := complete cost (memWrite e.addr v s)

/-- A read-modify-write instruction: one MemRead at EA, one MemWrite of the new value at EA, no penalty (R93); `f` gives
the new value and the flags of the operation, `k` is what is done with the new value after the write. -/
def modifyAt (e : Ea) (cost : Nat) (f : Byte → State → Byte × State) (k : Byte → State → State) (s : State) : Result :=
  let (v, s) := memRead e.addr s
  let (r, s) := f v s
  complete cost (k r (memWrite e.addr r s))

end Sys2Proof.Machine
end

