-- ==== Sys2Proof/Machine/Flags.lean ====
section
/-!
DEFINITION. Machine/Flags.lean: every flag computation: SetZN (R14), binary and decimal add and subtract (R250 to R253),
compare (R260), shifts and rotates (R270), and the flag rules of the illegal opcodes (R361 to R364).
-/

namespace Sys2Proof.Machine

/-- `SetZN(v)`, "the shared zero/negative-flag helper" (R14). -/
def setZN (v : Byte) (s : State) : State :=
  { s with flags := { s.flags with z := v == 0, n := v.getLsbD 7 } }

/-- `A <- v; SetZN(v)`. -/
def setA (v : Byte) (s : State) : State := setZN v { s with a := v }

/-- `X <- v; SetZN(v)`. -/
def setX (v : Byte) (s : State) : State := setZN v { s with x := v }

/-- `Y <- v; SetZN(v)`. -/
def setY (v : Byte) (s : State) : State := setZN v { s with y := v }

/-- `C <- b`. -/
def setC (b : Bool) (s : State) : State := { s with flags := { s.flags with c := b } }

/-! ## Logic with A (R256 to R258), loads of two registers (R358), counting (R264, R265) -/

/-- AND's operation (R256). -/
def andA (m : Byte) (s : State) : State := setA (s.a &&& m) s

/-- ORA's operation (R257). -/
def orA (m : Byte) (s : State) : State := setA (s.a ||| m) s

/-- EOR's operation (R258). -/
def eorA (m : Byte) (s : State) : State := setA (s.a ^^^ m) s

/-- LAX's operation (R358). -/
def loadAX (v : Byte) (s : State) : State := setA v { s with x := v }

/-- The new value of INC and ISC (R264, R360); no flag yet. -/
def increment (v : Byte) (s : State) : Byte × State := (v + 1, s)

/-- The new value of DEC and DCP (R265, R359); no flag yet. -/
def decrement (v : Byte) (s : State) : Byte × State := (v - 1, s)

/-- Nothing more to do after the write of a read-modify-write instruction. -/
def doneAfterWrite (_ : Byte) (s : State) : State := s

/-! ## Add and subtract (R250 to R253) -/

/-- `AddBinary(m)` (R250). -/
def addBinary (m : Byte) (s : State) : State :=
  let t := s.a.toNat + m.toNat + s.flags.c.toNat
  let r := BitVec.ofNat 8 t
  { s with
    a := r
    flags := { s.flags with
      c := decide (0xFF < t)
      v := (s.a ^^^ r) &&& (m ^^^ r) &&& 0x80 != 0
      z := r == 0
      n := r.getLsbD 7 } }

/-- `lo` of R251, after its adjustment. -/
def decimalLow (a m : Byte) (c : Bool) : Nat :=
  let lo := (a &&& 0x0F).toNat + (m &&& 0x0F).toNat + c.toNat
  if 0x09 < lo then lo + 0x06 else lo

/-- `t` of R251, before the high-digit adjustment. -/
def decimalSum (a m : Byte) (c : Bool) : Nat :=
  let lo := decimalLow a m c
  (lo &&& 0x0F) + (a &&& 0xF0).toNat + (m &&& 0xF0).toNat + (if 0x0F < lo then 0x10 else 0x00)

/-- `t` of R251, after the high-digit adjustment. -/
def decimalAdjust (t : Nat) : Nat := if 0x90 < t &&& 0x1F0 then t + 0x60 else t

/-- `AddDecimal(m)` (R251): Z from the binary sum, N and V from the sum before the high-digit adjustment, C from the sum
after it. -/
def addDecimal (m : Byte) (s : State) : State :=
  let t := decimalSum s.a m s.flags.c
  let u := decimalAdjust t
  let tb := BitVec.ofNat 8 t
  { s with
    a := BitVec.ofNat 8 u
    flags := { s.flags with
      z := (s.a.toNat + m.toNat + s.flags.c.toNat) % 256 == 0
      n := tb.getLsbD 7
      v := (s.a ^^^ tb) &&& 0x80 != 0 && (s.a ^^^ m) &&& 0x80 == 0
      c := decide (0xF0 < u &&& 0xFF0) } }

/-- `t` of R252. -/
def subtractTotal (s : State) (m : Byte) : Int := (s.a.toNat : Int) - m.toNat - (1 - s.flags.c.toNat)

/-- The flags of `SubBinary(m)` (R252). -/
def subtractFlags (m : Byte) (s : State) : Flags :=
  let t := subtractTotal s m
  let r := BitVec.ofInt 8 t
  { s.flags with
    c := decide (0 ≤ t)
    v := (s.a ^^^ m) &&& (s.a ^^^ r) &&& 0x80 != 0
    z := r == 0
    n := r.getLsbD 7 }

/-- `SubBinary(m)` (R252). -/
def subBinary (m : Byte) (s : State) : State :=
  { s with a := BitVec.ofInt 8 (subtractTotal s m), flags := subtractFlags m s }

/-- The digit-wise difference of R253. -/
def decimalDifference (a m : Byte) (c : Bool) : Byte :=
  let b : Int := 1 - c.toNat
  let lo : Int := (a &&& 0x0F).toNat - (m &&& 0x0F).toNat - b
  let hi : Int := (a >>> 4).toNat - (m >>> 4).toNat
  let (lo, hi) := if lo < 0 then (lo - 6, hi - 1) else (lo, hi)
  let hi := if hi < 0 then hi - 6 else hi
  BitVec.ofInt 8 (hi % 16 * 16 + lo % 16)

/-- `SubDecimal(m)` (R253): the flags are those of `SubBinary(m)`. -/
def subDecimal (m : Byte) (s : State) : State :=
  { s with a := decimalDifference s.a m s.flags.c, flags := subtractFlags m s }

/-- ADC's operation (R254). -/
def addWithCarry (m : Byte) (s : State) : State := if s.flags.d then addDecimal m s else addBinary m s

/-- SBC's operation (R255). -/
def subtractWithBorrow (m : Byte) (s : State) : State := if s.flags.d then subDecimal m s else subBinary m s

/-! ## Compare and bit test (R259, R260) -/

/-- `Compare(r, m)` (R260). -/
def compare (r m : Byte) (s : State) : State := setZN (r - m) (setC (decide (m ≤ r)) s)

/-- CMP's operation (R261). -/
def compareA (m : Byte) (s : State) : State := compare s.a m s

/-- CPX's operation (R262). -/
def compareX (m : Byte) (s : State) : State := compare s.x m s

/-- CPY's operation (R263). -/
def compareY (m : Byte) (s : State) : State := compare s.y m s

/-- BIT's operation (R259). -/
def bitTest (m : Byte) (s : State) : State :=
  { s with flags := { s.flags with z := s.a &&& m == 0, n := m.getLsbD 7, v := m.getLsbD 6 } }

/-! ## Shifts and rotates (R270) -/

/-- `Asl(v)`. -/
def asl (v : Byte) (s : State) : Byte × State :=
  let r := v <<< 1
  (r, setZN r (setC (v.getLsbD 7) s))

/-- `Lsr(v)`. -/
def lsr (v : Byte) (s : State) : Byte × State :=
  let r := v >>> 1
  (r, setZN r (setC (v.getLsbD 0) s))

/-- `Rol(v)`. -/
def rol (v : Byte) (s : State) : Byte × State :=
  let r := v <<< 1 ||| flagBit s.flags.c 0
  (r, setZN r (setC (v.getLsbD 7) s))

/-- `Ror(v)`. -/
def ror (v : Byte) (s : State) : Byte × State :=
  let r := v >>> 1 ||| flagBit s.flags.c 7
  (r, setZN r (setC (v.getLsbD 0) s))

/-! ## The illegal immediate opcodes (R361 to R364) -/

/-- ANC's operation: `SetZN(A); C <- N` (R361). -/
def andCopyN (m : Byte) (s : State) : State :=
  let r := s.a &&& m
  setC (r.getLsbD 7) (setA r s)

/-- ALR's operation (R362). -/
def andShiftRight (m : Byte) (s : State) : State :=
  let t := s.a &&& m
  setA (t >>> 1) (setC (t.getLsbD 0) s)

/-- ARR's operation when D = 0 (R363). -/
def arrBinary (m : Byte) (s : State) : State :=
  let t := s.a &&& m
  let a := t >>> 1 ||| flagBit s.flags.c 7
  { s with
    a := a
    flags := { s.flags with z := a == 0, n := a.getLsbD 7, c := a.getLsbD 6, v := a.getLsbD 6 ^^ a.getLsbD 5 } }

/-- The low digit's adjustment in ARR's decimal form (R363). -/
def arrLow (t a : Byte) : Byte :=
  if 5 < (t &&& 0x0F).toNat + (t &&& 0x01).toNat then a &&& 0xF0 ||| (a + 6) &&& 0x0F else a

/-- Does the high digit need its adjustment in ARR's decimal form (R363)? -/
def arrHigh (t : Byte) : Bool := decide (5 < (t >>> 4).toNat + ((t >>> 4) &&& 1).toNat)

/-- ARR's operation when D = 1 (R363). -/
def arrDecimal (m : Byte) (s : State) : State :=
  let t := s.a &&& m
  let a := t >>> 1 ||| flagBit s.flags.c 7
  { s with
    a := if arrHigh t then arrLow t a + 0x60 else arrLow t a
    flags := { s.flags with n := s.flags.c, z := a == 0, v := (t ^^^ a).getLsbD 6, c := arrHigh t } }

/-- ARR's operation (R363). -/
def andRotateRight (m : Byte) (s : State) : State := if s.flags.d then arrDecimal m s else arrBinary m s

/-- SBX's operation (R364). -/
def subtractFromAX (m : Byte) (s : State) : State :=
  let ax := s.a &&& s.x
  setX (ax - m) (setC (decide (m ≤ ax)) s)

end Sys2Proof.Machine
end

