-- ==== Sys2Proof/Machine/Operands.lean ====
section
/-!
DEFINITION. Machine/Operands.lean: the addressing modes (R140 to R148).
-/

namespace Sys2Proof.Machine

/-- Do two addresses lie in different 256-byte pages (R145, R147, R148)? -/
def pagesDiffer (a b : Addr) : Bool := a &&& 0xFF00 != b &&& 0xFF00

/-- An address in the zero page (R141). -/
def zeroPage (b : Byte) : Addr := b.setWidth 16

/-- An index register widened to an address. -/
def widen (b : Byte) : Addr := b.setWidth 16

/-- The pointer at a zero-page address; its high byte wraps inside page 0 (R144, R145). MemRead of a zero-page address
changes nothing (Laws/Ops.lean, memRead_zeroPage), so the state after it is not kept. -/
def zeroPagePointer (p : Byte) (s : State) : Addr :=
  mkAddr (memRead (zeroPage p) s).1 (memRead (zeroPage (p + 1)) s).1

/-- zp (R141). -/
def eaZp (zp : Byte) : Ea := ⟨zeroPage zp, false⟩

/-- zp,X: the sum wraps inside page 0 (R142). -/
def eaZpx (zp : Byte) (s : State) : Ea := ⟨zeroPage (zp + s.x), false⟩

/-- zp,Y (R142). -/
def eaZpy (zp : Byte) (s : State) : Ea := ⟨zeroPage (zp + s.y), false⟩

/-- abs (R143). -/
def eaAbs (a : Addr) : Ea := ⟨a, false⟩

/-- A base address indexed, modulo 65536 (R145, R147). -/
def eaIndexed (base : Addr) (index : Byte) : Ea :=
  ⟨base + widen index, pagesDiffer base (base + widen index)⟩

/-- abs,X (R147). -/
def eaAbsx (a : Addr) (s : State) : Ea := eaIndexed a s.x

/-- abs,Y (R147). -/
def eaAbsy (a : Addr) (s : State) : Ea := eaIndexed a s.y

/-- (zp,X) (R144). -/
def eaIzx (zp : Byte) (s : State) : Ea := ⟨zeroPagePointer (zp + s.x) s, false⟩

/-- (zp),Y (R145). -/
def eaIzy (zp : Byte) (s : State) : Ea := eaIndexed (zeroPagePointer zp s) s.y

/-- The address of the high byte of a JMP (abs) pointer: in the page of the low byte (R146). -/
def pointerHigh (a : Addr) : Addr := mkAddr (loByte a + 1) (hiByte a)

/-- The target of JMP (abs), low byte read first (R146). -/
def jumpIndirect (a : Addr) (s : State) : Addr × State :=
  let (lo, s) := memRead a s
  let (hi, s) := memRead (pointerHigh a) s
  (mkAddr lo hi, s)

/-- The target of a branch, from the address of the byte after it (R148). -/
def branchTarget (next : Addr) (off : Int) : Addr := next + BitVec.ofInt 16 off

/-- A conditional branch: 2 cycles if not taken, 3 if taken inside the page of the byte after the branch, 4 if taken into
another page (R300). -/
def branchIf (cond : Bool) (off : Int) (s : State) : Result :=
  if cond then
    let target := branchTarget s.pc off
    complete (if pagesDiffer s.pc target then 4 else 3) { s with pc := target }
  else complete 2 s

end Sys2Proof.Machine
end

