-- ==== Sys2Proof/Machine/Arithmetic.lean ====
section
/-!
DEFINITION. Machine/Arithmetic.lean: the arithmetic, logic, compare, increment and shift instructions (41_arith_logic_shift.md).
Each meaning runs after the whole instruction has been fetched: the PC stands at the next instruction.
-/

namespace Sys2Proof.Machine

/-! ### ADC (R254) -/

/-- ADC (zp,X) (R254, row 0x61). -/
def execAdcIzx (zp : Byte) (s : State) : Result :=
  readThen (eaIzx zp s) 6 addWithCarry s

/-- ADC zp (R254, row 0x65). -/
def execAdcZp (zp : Byte) (s : State) : Result :=
  readThen (eaZp zp) 3 addWithCarry s

/-- ADC # (R254, row 0x69). -/
def execAdcImm (v : Byte) (s : State) : Result :=
  complete 2 (addWithCarry v s)

/-- ADC abs (R254, row 0x6D). -/
def execAdcAbs (a : Addr) (s : State) : Result :=
  readThen (eaAbs a) 4 addWithCarry s

/-- ADC (zp),Y (R254, row 0x71). -/
def execAdcIzy (zp : Byte) (s : State) : Result :=
  readThen (eaIzy zp s) 5 addWithCarry s

/-- ADC zp,X (R254, row 0x75). -/
def execAdcZpx (zp : Byte) (s : State) : Result :=
  readThen (eaZpx zp s) 4 addWithCarry s

/-- ADC abs,Y (R254, row 0x79). -/
def execAdcAbsy (a : Addr) (s : State) : Result :=
  readThen (eaAbsy a s) 4 addWithCarry s

/-- ADC abs,X (R254, row 0x7D). -/
def execAdcAbsx (a : Addr) (s : State) : Result :=
  readThen (eaAbsx a s) 4 addWithCarry s

/-! ### SBC (R255) -/

/-- SBC (zp,X) (R255, row 0xE1). -/
def execSbcIzx (zp : Byte) (s : State) : Result :=
  readThen (eaIzx zp s) 6 subtractWithBorrow s

/-- SBC zp (R255, row 0xE5). -/
def execSbcZp (zp : Byte) (s : State) : Result :=
  readThen (eaZp zp) 3 subtractWithBorrow s

/-- SBC # (R255, row 0xE9). -/
def execSbcImm (v : Byte) (s : State) : Result :=
  complete 2 (subtractWithBorrow v s)

/-- SBC abs (R255, row 0xED). -/
def execSbcAbs (a : Addr) (s : State) : Result :=
  readThen (eaAbs a) 4 subtractWithBorrow s

/-- SBC (zp),Y (R255, row 0xF1). -/
def execSbcIzy (zp : Byte) (s : State) : Result :=
  readThen (eaIzy zp s) 5 subtractWithBorrow s

/-- SBC zp,X (R255, row 0xF5). -/
def execSbcZpx (zp : Byte) (s : State) : Result :=
  readThen (eaZpx zp s) 4 subtractWithBorrow s

/-- SBC abs,Y (R255, row 0xF9). -/
def execSbcAbsy (a : Addr) (s : State) : Result :=
  readThen (eaAbsy a s) 4 subtractWithBorrow s

/-- SBC abs,X (R255, row 0xFD). -/
def execSbcAbsx (a : Addr) (s : State) : Result :=
  readThen (eaAbsx a s) 4 subtractWithBorrow s

/-! ### AND (R256) -/

/-- AND (zp,X) (R256, row 0x21). -/
def execAndIzx (zp : Byte) (s : State) : Result :=
  readThen (eaIzx zp s) 6 andA s

/-- AND zp (R256, row 0x25). -/
def execAndZp (zp : Byte) (s : State) : Result :=
  readThen (eaZp zp) 3 andA s

/-- AND # (R256, row 0x29). -/
def execAndImm (v : Byte) (s : State) : Result :=
  complete 2 (andA v s)

/-- AND abs (R256, row 0x2D). -/
def execAndAbs (a : Addr) (s : State) : Result :=
  readThen (eaAbs a) 4 andA s

/-- AND (zp),Y (R256, row 0x31). -/
def execAndIzy (zp : Byte) (s : State) : Result :=
  readThen (eaIzy zp s) 5 andA s

/-- AND zp,X (R256, row 0x35). -/
def execAndZpx (zp : Byte) (s : State) : Result :=
  readThen (eaZpx zp s) 4 andA s

/-- AND abs,Y (R256, row 0x39). -/
def execAndAbsy (a : Addr) (s : State) : Result :=
  readThen (eaAbsy a s) 4 andA s

/-- AND abs,X (R256, row 0x3D). -/
def execAndAbsx (a : Addr) (s : State) : Result :=
  readThen (eaAbsx a s) 4 andA s

/-! ### ORA (R257) -/

/-- ORA (zp,X) (R257, row 0x01). -/
def execOraIzx (zp : Byte) (s : State) : Result :=
  readThen (eaIzx zp s) 6 orA s

/-- ORA zp (R257, row 0x05). -/
def execOraZp (zp : Byte) (s : State) : Result :=
  readThen (eaZp zp) 3 orA s

/-- ORA # (R257, row 0x09). -/
def execOraImm (v : Byte) (s : State) : Result :=
  complete 2 (orA v s)

/-- ORA abs (R257, row 0x0D). -/
def execOraAbs (a : Addr) (s : State) : Result :=
  readThen (eaAbs a) 4 orA s

/-- ORA (zp),Y (R257, row 0x11). -/
def execOraIzy (zp : Byte) (s : State) : Result :=
  readThen (eaIzy zp s) 5 orA s

/-- ORA zp,X (R257, row 0x15). -/
def execOraZpx (zp : Byte) (s : State) : Result :=
  readThen (eaZpx zp s) 4 orA s

/-- ORA abs,Y (R257, row 0x19). -/
def execOraAbsy (a : Addr) (s : State) : Result :=
  readThen (eaAbsy a s) 4 orA s

/-- ORA abs,X (R257, row 0x1D). -/
def execOraAbsx (a : Addr) (s : State) : Result :=
  readThen (eaAbsx a s) 4 orA s

/-! ### EOR (R258) -/

/-- EOR (zp,X) (R258, row 0x41). -/
def execEorIzx (zp : Byte) (s : State) : Result :=
  readThen (eaIzx zp s) 6 eorA s

/-- EOR zp (R258, row 0x45). -/
def execEorZp (zp : Byte) (s : State) : Result :=
  readThen (eaZp zp) 3 eorA s

/-- EOR # (R258, row 0x49). -/
def execEorImm (v : Byte) (s : State) : Result :=
  complete 2 (eorA v s)

/-- EOR abs (R258, row 0x4D). -/
def execEorAbs (a : Addr) (s : State) : Result :=
  readThen (eaAbs a) 4 eorA s

/-- EOR (zp),Y (R258, row 0x51). -/
def execEorIzy (zp : Byte) (s : State) : Result :=
  readThen (eaIzy zp s) 5 eorA s

/-- EOR zp,X (R258, row 0x55). -/
def execEorZpx (zp : Byte) (s : State) : Result :=
  readThen (eaZpx zp s) 4 eorA s

/-- EOR abs,Y (R258, row 0x59). -/
def execEorAbsy (a : Addr) (s : State) : Result :=
  readThen (eaAbsy a s) 4 eorA s

/-- EOR abs,X (R258, row 0x5D). -/
def execEorAbsx (a : Addr) (s : State) : Result :=
  readThen (eaAbsx a s) 4 eorA s

/-! ### BIT (R259) -/

/-- BIT zp (R259, row 0x24). -/
def execBitZp (zp : Byte) (s : State) : Result :=
  readThen (eaZp zp) 3 bitTest s

/-- BIT abs (R259, row 0x2C). -/
def execBitAbs (a : Addr) (s : State) : Result :=
  readThen (eaAbs a) 4 bitTest s

/-! ### CMP (R261) -/

/-- CMP (zp,X) (R261, row 0xC1). -/
def execCmpIzx (zp : Byte) (s : State) : Result :=
  readThen (eaIzx zp s) 6 compareA s

/-- CMP zp (R261, row 0xC5). -/
def execCmpZp (zp : Byte) (s : State) : Result :=
  readThen (eaZp zp) 3 compareA s

/-- CMP # (R261, row 0xC9). -/
def execCmpImm (v : Byte) (s : State) : Result :=
  complete 2 (compareA v s)

/-- CMP abs (R261, row 0xCD). -/
def execCmpAbs (a : Addr) (s : State) : Result :=
  readThen (eaAbs a) 4 compareA s

/-- CMP (zp),Y (R261, row 0xD1). -/
def execCmpIzy (zp : Byte) (s : State) : Result :=
  readThen (eaIzy zp s) 5 compareA s

/-- CMP zp,X (R261, row 0xD5). -/
def execCmpZpx (zp : Byte) (s : State) : Result :=
  readThen (eaZpx zp s) 4 compareA s

/-- CMP abs,Y (R261, row 0xD9). -/
def execCmpAbsy (a : Addr) (s : State) : Result :=
  readThen (eaAbsy a s) 4 compareA s

/-- CMP abs,X (R261, row 0xDD). -/
def execCmpAbsx (a : Addr) (s : State) : Result :=
  readThen (eaAbsx a s) 4 compareA s

/-! ### CPX (R262) -/

/-- CPX # (R262, row 0xE0). -/
def execCpxImm (v : Byte) (s : State) : Result :=
  complete 2 (compareX v s)

/-- CPX zp (R262, row 0xE4). -/
def execCpxZp (zp : Byte) (s : State) : Result :=
  readThen (eaZp zp) 3 compareX s

/-- CPX abs (R262, row 0xEC). -/
def execCpxAbs (a : Addr) (s : State) : Result :=
  readThen (eaAbs a) 4 compareX s

/-! ### CPY (R263) -/

/-- CPY # (R263, row 0xC0). -/
def execCpyImm (v : Byte) (s : State) : Result :=
  complete 2 (compareY v s)

/-- CPY zp (R263, row 0xC4). -/
def execCpyZp (zp : Byte) (s : State) : Result :=
  readThen (eaZp zp) 3 compareY s

/-- CPY abs (R263, row 0xCC). -/
def execCpyAbs (a : Addr) (s : State) : Result :=
  readThen (eaAbs a) 4 compareY s

/-! ### INC (R264) -/

/-- INC zp (R264, row 0xE6). -/
def execIncZp (zp : Byte) (s : State) : Result :=
  modifyAt (eaZp zp) 5 increment setZN s

/-- INC abs (R264, row 0xEE). -/
def execIncAbs (a : Addr) (s : State) : Result :=
  modifyAt (eaAbs a) 6 increment setZN s

/-- INC zp,X (R264, row 0xF6). -/
def execIncZpx (zp : Byte) (s : State) : Result :=
  modifyAt (eaZpx zp s) 6 increment setZN s

/-- INC abs,X (R264, row 0xFE). -/
def execIncAbsx (a : Addr) (s : State) : Result :=
  modifyAt (eaAbsx a s) 7 increment setZN s

/-! ### DEC (R265) -/

/-- DEC zp (R265, row 0xC6). -/
def execDecZp (zp : Byte) (s : State) : Result :=
  modifyAt (eaZp zp) 5 decrement setZN s

/-- DEC abs (R265, row 0xCE). -/
def execDecAbs (a : Addr) (s : State) : Result :=
  modifyAt (eaAbs a) 6 decrement setZN s

/-- DEC zp,X (R265, row 0xD6). -/
def execDecZpx (zp : Byte) (s : State) : Result :=
  modifyAt (eaZpx zp s) 6 decrement setZN s

/-- DEC abs,X (R265, row 0xDE). -/
def execDecAbsx (a : Addr) (s : State) : Result :=
  modifyAt (eaAbsx a s) 7 decrement setZN s

/-! ### INX (R266) -/

/-- INX (R266, row 0xE8). -/
def execInx (s : State) : Result :=
  complete 2 (setX (s.x + 1) s)

/-! ### INY (R267) -/

/-- INY (R267, row 0xC8). -/
def execIny (s : State) : Result :=
  complete 2 (setY (s.y + 1) s)

/-! ### DEX (R268) -/

/-- DEX (R268, row 0xCA). -/
def execDex (s : State) : Result :=
  complete 2 (setX (s.x - 1) s)

/-! ### DEY (R269) -/

/-- DEY (R269, row 0x88). -/
def execDey (s : State) : Result :=
  complete 2 (setY (s.y - 1) s)

/-! ### ASL (R271) -/

/-- ASL zp (R271, row 0x06). -/
def execAslZp (zp : Byte) (s : State) : Result :=
  modifyAt (eaZp zp) 5 asl doneAfterWrite s

/-- ASL A (R271, row 0x0A). -/
def execAslAcc (s : State) : Result :=
  let (v, s) := asl s.a s
  complete 2 { s with a := v }

/-- ASL abs (R271, row 0x0E). -/
def execAslAbs (a : Addr) (s : State) : Result :=
  modifyAt (eaAbs a) 6 asl doneAfterWrite s

/-- ASL zp,X (R271, row 0x16). -/
def execAslZpx (zp : Byte) (s : State) : Result :=
  modifyAt (eaZpx zp s) 6 asl doneAfterWrite s

/-- ASL abs,X (R271, row 0x1E). -/
def execAslAbsx (a : Addr) (s : State) : Result :=
  modifyAt (eaAbsx a s) 7 asl doneAfterWrite s

/-! ### LSR (R272) -/

/-- LSR zp (R272, row 0x46). -/
def execLsrZp (zp : Byte) (s : State) : Result :=
  modifyAt (eaZp zp) 5 lsr doneAfterWrite s

/-- LSR A (R272, row 0x4A). -/
def execLsrAcc (s : State) : Result :=
  let (v, s) := lsr s.a s
  complete 2 { s with a := v }

/-- LSR abs (R272, row 0x4E). -/
def execLsrAbs (a : Addr) (s : State) : Result :=
  modifyAt (eaAbs a) 6 lsr doneAfterWrite s

/-- LSR zp,X (R272, row 0x56). -/
def execLsrZpx (zp : Byte) (s : State) : Result :=
  modifyAt (eaZpx zp s) 6 lsr doneAfterWrite s

/-- LSR abs,X (R272, row 0x5E). -/
def execLsrAbsx (a : Addr) (s : State) : Result :=
  modifyAt (eaAbsx a s) 7 lsr doneAfterWrite s

/-! ### ROL (R273) -/

/-- ROL zp (R273, row 0x26). -/
def execRolZp (zp : Byte) (s : State) : Result :=
  modifyAt (eaZp zp) 5 rol doneAfterWrite s

/-- ROL A (R273, row 0x2A). -/
def execRolAcc (s : State) : Result :=
  let (v, s) := rol s.a s
  complete 2 { s with a := v }

/-- ROL abs (R273, row 0x2E). -/
def execRolAbs (a : Addr) (s : State) : Result :=
  modifyAt (eaAbs a) 6 rol doneAfterWrite s

/-- ROL zp,X (R273, row 0x36). -/
def execRolZpx (zp : Byte) (s : State) : Result :=
  modifyAt (eaZpx zp s) 6 rol doneAfterWrite s

/-- ROL abs,X (R273, row 0x3E). -/
def execRolAbsx (a : Addr) (s : State) : Result :=
  modifyAt (eaAbsx a s) 7 rol doneAfterWrite s

/-! ### ROR (R274) -/

/-- ROR zp (R274, row 0x66). -/
def execRorZp (zp : Byte) (s : State) : Result :=
  modifyAt (eaZp zp) 5 ror doneAfterWrite s

/-- ROR A (R274, row 0x6A). -/
def execRorAcc (s : State) : Result :=
  let (v, s) := ror s.a s
  complete 2 { s with a := v }

/-- ROR abs (R274, row 0x6E). -/
def execRorAbs (a : Addr) (s : State) : Result :=
  modifyAt (eaAbs a) 6 ror doneAfterWrite s

/-- ROR zp,X (R274, row 0x76). -/
def execRorZpx (zp : Byte) (s : State) : Result :=
  modifyAt (eaZpx zp s) 6 ror doneAfterWrite s

/-- ROR abs,X (R274, row 0x7E). -/
def execRorAbsx (a : Addr) (s : State) : Result :=
  modifyAt (eaAbsx a s) 7 ror doneAfterWrite s

end Sys2Proof.Machine
end

