-- ==== Sys2Proof/Machine/Control.lean ====
section
/-!
DEFINITION. Machine/Control.lean: the control transfer, flag and no-operation instructions (42_control_flags.md).
Each meaning runs after the whole instruction has been fetched: the PC stands at the next instruction.
-/

namespace Sys2Proof.Machine

/-! ### BCC (R301) -/

/-- BCC rel (R301, row 0x90). -/
def execBcc (off : Int) (s : State) : Result :=
  branchIf (!s.flags.c) off s

/-! ### BCS (R302) -/

/-- BCS rel (R302, row 0xB0). -/
def execBcs (off : Int) (s : State) : Result :=
  branchIf s.flags.c off s

/-! ### BEQ (R303) -/

/-- BEQ rel (R303, row 0xF0). -/
def execBeq (off : Int) (s : State) : Result :=
  branchIf s.flags.z off s

/-! ### BNE (R304) -/

/-- BNE rel (R304, row 0xD0). -/
def execBne (off : Int) (s : State) : Result :=
  branchIf (!s.flags.z) off s

/-! ### BMI (R305) -/

/-- BMI rel (R305, row 0x30). -/
def execBmi (off : Int) (s : State) : Result :=
  branchIf s.flags.n off s

/-! ### BPL (R306) -/

/-- BPL rel (R306, row 0x10). -/
def execBpl (off : Int) (s : State) : Result :=
  branchIf (!s.flags.n) off s

/-! ### BVC (R307) -/

/-- BVC rel (R307, row 0x50). -/
def execBvc (off : Int) (s : State) : Result :=
  branchIf (!s.flags.v) off s

/-! ### BVS (R308) -/

/-- BVS rel (R308, row 0x70). -/
def execBvs (off : Int) (s : State) : Result :=
  branchIf s.flags.v off s

/-! ### JMP (R309) -/

/-- JMP abs (R309, row 0x4C). -/
def execJmpAbs (a : Addr) (s : State) : Result :=
  complete 3 { s with pc := a }

/-- JMP (abs) (R309, row 0x6C). -/
def execJmpInd (a : Addr) (s : State) : Result :=
  let (target, s) := jumpIndirect a s
  complete 5 { s with pc := target }

/-! ### JSR (R310) -/

/-- JSR abs (R310, row 0x20). -/
def execJsrAbs (a : Addr) (s : State) : Result :=
  complete 6 { pushAddr (s.pc - 1) s with pc := a }

/-! ### RTS (R311) -/

/-- RTS (R311, row 0x60). -/
def execRts (s : State) : Result :=
  complete 6 (returnFromSubroutine s)

/-! ### RTI (R312) -/

/-- RTI (R312, row 0x40). -/
def execRti (s : State) : Result :=
  complete 6 (returnFromInterrupt s)

/-! ### BRK (R313) -/

/-- BRK (R313, row 0x00). -/
def execBrk (s : State) : Result :=
  .next (takeInterrupt s.params.vecIrq (s.pc + 1) (getP s.flags) .brk 7 s)

/-! ### CLC (R314) -/

/-- CLC (R314, row 0x18). -/
def execClc (s : State) : Result :=
  complete 2 (setC false s)

/-! ### SEC (R315) -/

/-- SEC (R315, row 0x38). -/
def execSec (s : State) : Result :=
  complete 2 (setC true s)

/-! ### CLI (R316) -/

/-- CLI (R316, row 0x58). -/
def execCli (s : State) : Result :=
  complete 2 { s with flags := { s.flags with i := false } }

/-! ### SEI (R317) -/

/-- SEI (R317, row 0x78). -/
def execSei (s : State) : Result :=
  complete 2 { s with flags := { s.flags with i := true } }

/-! ### CLD (R318) -/

/-- CLD (R318, row 0xD8). -/
def execCld (s : State) : Result :=
  complete 2 { s with flags := { s.flags with d := false } }

/-! ### SED (R319) -/

/-- SED (R319, row 0xF8). -/
def execSed (s : State) : Result :=
  complete 2 { s with flags := { s.flags with d := true } }

/-! ### CLV (R320) -/

/-- CLV (R320, row 0xB8). -/
def execClv (s : State) : Result :=
  complete 2 { s with flags := { s.flags with v := false } }

/-! ### NOP (R321) -/

/-- NOP (R321, row 0xEA). -/
def execNop (s : State) : Result :=
  complete 2 s

end Sys2Proof.Machine
end

