-- ==== Sys2Proof/Machine/Illegal.lean ====
section
/-!
DEFINITION. Machine/Illegal.lean: the jam, illegal and unstable opcodes (43_illegal.md).
Each meaning runs after the whole instruction has been fetched: the PC stands at the next instruction.
An illegal opcode that ILLEGAL_SET leaves out is undecoded (R350, R370): the step has then fetched its opcode byte alone, and
no meaning looks at its operand.
-/

namespace Sys2Proof.Machine

/-! ### JAM (R351) -/

/-- JAM (R351, rows 0x02, 0x12, 0x22, 0x32, 0x42, 0x52, 0x62, 0x72, 0x92, 0xB2, 0xD2, 0xF2). -/
def execJam (_op : Byte) (s : State) : Result :=
  .next (({ s with mode := .jammed }.record (.jam s.pc)).addCycles s.params.jamCycles)

/-! ### SLO (R353) -/

/-- SLO (zp,X) (R353, row 0x03). -/
def execSloIzx (zp : Byte) (s : State) : Result :=
  ifInIllegalSet 0x03 (fun s => modifyAt (eaIzx zp s) 8 asl orA s) s

/-- SLO zp (R353, row 0x07). -/
def execSloZp (zp : Byte) (s : State) : Result :=
  ifInIllegalSet 0x07 (fun s => modifyAt (eaZp zp) 5 asl orA s) s

/-- SLO abs (R353, row 0x0F). -/
def execSloAbs (a : Addr) (s : State) : Result :=
  ifInIllegalSet 0x0F (fun s => modifyAt (eaAbs a) 6 asl orA s) s

/-- SLO (zp),Y (R353, row 0x13). -/
def execSloIzy (zp : Byte) (s : State) : Result :=
  ifInIllegalSet 0x13 (fun s => modifyAt (eaIzy zp s) 8 asl orA s) s

/-- SLO zp,X (R353, row 0x17). -/
def execSloZpx (zp : Byte) (s : State) : Result :=
  ifInIllegalSet 0x17 (fun s => modifyAt (eaZpx zp s) 6 asl orA s) s

/-- SLO abs,Y (R353, row 0x1B). -/
def execSloAbsy (a : Addr) (s : State) : Result :=
  ifInIllegalSet 0x1B (fun s => modifyAt (eaAbsy a s) 7 asl orA s) s

/-- SLO abs,X (R353, row 0x1F). -/
def execSloAbsx (a : Addr) (s : State) : Result :=
  ifInIllegalSet 0x1F (fun s => modifyAt (eaAbsx a s) 7 asl orA s) s

/-! ### RLA (R354) -/

/-- RLA (zp,X) (R354, row 0x23). -/
def execRlaIzx (zp : Byte) (s : State) : Result :=
  ifInIllegalSet 0x23 (fun s => modifyAt (eaIzx zp s) 8 rol andA s) s

/-- RLA zp (R354, row 0x27). -/
def execRlaZp (zp : Byte) (s : State) : Result :=
  ifInIllegalSet 0x27 (fun s => modifyAt (eaZp zp) 5 rol andA s) s

/-- RLA abs (R354, row 0x2F). -/
def execRlaAbs (a : Addr) (s : State) : Result :=
  ifInIllegalSet 0x2F (fun s => modifyAt (eaAbs a) 6 rol andA s) s

/-- RLA (zp),Y (R354, row 0x33). -/
def execRlaIzy (zp : Byte) (s : State) : Result :=
  ifInIllegalSet 0x33 (fun s => modifyAt (eaIzy zp s) 8 rol andA s) s

/-- RLA zp,X (R354, row 0x37). -/
def execRlaZpx (zp : Byte) (s : State) : Result :=
  ifInIllegalSet 0x37 (fun s => modifyAt (eaZpx zp s) 6 rol andA s) s

/-- RLA abs,Y (R354, row 0x3B). -/
def execRlaAbsy (a : Addr) (s : State) : Result :=
  ifInIllegalSet 0x3B (fun s => modifyAt (eaAbsy a s) 7 rol andA s) s

/-- RLA abs,X (R354, row 0x3F). -/
def execRlaAbsx (a : Addr) (s : State) : Result :=
  ifInIllegalSet 0x3F (fun s => modifyAt (eaAbsx a s) 7 rol andA s) s

/-! ### SRE (R355) -/

/-- SRE (zp,X) (R355, row 0x43). -/
def execSreIzx (zp : Byte) (s : State) : Result :=
  ifInIllegalSet 0x43 (fun s => modifyAt (eaIzx zp s) 8 lsr eorA s) s

/-- SRE zp (R355, row 0x47). -/
def execSreZp (zp : Byte) (s : State) : Result :=
  ifInIllegalSet 0x47 (fun s => modifyAt (eaZp zp) 5 lsr eorA s) s

/-- SRE abs (R355, row 0x4F). -/
def execSreAbs (a : Addr) (s : State) : Result :=
  ifInIllegalSet 0x4F (fun s => modifyAt (eaAbs a) 6 lsr eorA s) s

/-- SRE (zp),Y (R355, row 0x53). -/
def execSreIzy (zp : Byte) (s : State) : Result :=
  ifInIllegalSet 0x53 (fun s => modifyAt (eaIzy zp s) 8 lsr eorA s) s

/-- SRE zp,X (R355, row 0x57). -/
def execSreZpx (zp : Byte) (s : State) : Result :=
  ifInIllegalSet 0x57 (fun s => modifyAt (eaZpx zp s) 6 lsr eorA s) s

/-- SRE abs,Y (R355, row 0x5B). -/
def execSreAbsy (a : Addr) (s : State) : Result :=
  ifInIllegalSet 0x5B (fun s => modifyAt (eaAbsy a s) 7 lsr eorA s) s

/-- SRE abs,X (R355, row 0x5F). -/
def execSreAbsx (a : Addr) (s : State) : Result :=
  ifInIllegalSet 0x5F (fun s => modifyAt (eaAbsx a s) 7 lsr eorA s) s

/-! ### RRA (R356) -/

/-- RRA (zp,X) (R356, row 0x63). -/
def execRraIzx (zp : Byte) (s : State) : Result :=
  ifInIllegalSet 0x63 (fun s => modifyAt (eaIzx zp s) 8 ror addWithCarry s) s

/-- RRA zp (R356, row 0x67). -/
def execRraZp (zp : Byte) (s : State) : Result :=
  ifInIllegalSet 0x67 (fun s => modifyAt (eaZp zp) 5 ror addWithCarry s) s

/-- RRA abs (R356, row 0x6F). -/
def execRraAbs (a : Addr) (s : State) : Result :=
  ifInIllegalSet 0x6F (fun s => modifyAt (eaAbs a) 6 ror addWithCarry s) s

/-- RRA (zp),Y (R356, row 0x73). -/
def execRraIzy (zp : Byte) (s : State) : Result :=
  ifInIllegalSet 0x73 (fun s => modifyAt (eaIzy zp s) 8 ror addWithCarry s) s

/-- RRA zp,X (R356, row 0x77). -/
def execRraZpx (zp : Byte) (s : State) : Result :=
  ifInIllegalSet 0x77 (fun s => modifyAt (eaZpx zp s) 6 ror addWithCarry s) s

/-- RRA abs,Y (R356, row 0x7B). -/
def execRraAbsy (a : Addr) (s : State) : Result :=
  ifInIllegalSet 0x7B (fun s => modifyAt (eaAbsy a s) 7 ror addWithCarry s) s

/-- RRA abs,X (R356, row 0x7F). -/
def execRraAbsx (a : Addr) (s : State) : Result :=
  ifInIllegalSet 0x7F (fun s => modifyAt (eaAbsx a s) 7 ror addWithCarry s) s

/-! ### SAX (R357) -/

/-- SAX (zp,X) (R357, row 0x83). -/
def execSaxIzx (zp : Byte) (s : State) : Result :=
  ifInIllegalSet 0x83 (fun s => storeAt (eaIzx zp s) 6 (s.a &&& s.x) s) s

/-- SAX zp (R357, row 0x87). -/
def execSaxZp (zp : Byte) (s : State) : Result :=
  ifInIllegalSet 0x87 (fun s => storeAt (eaZp zp) 3 (s.a &&& s.x) s) s

/-- SAX abs (R357, row 0x8F). -/
def execSaxAbs (a : Addr) (s : State) : Result :=
  ifInIllegalSet 0x8F (fun s => storeAt (eaAbs a) 4 (s.a &&& s.x) s) s

/-- SAX zp,Y (R357, row 0x97). -/
def execSaxZpy (zp : Byte) (s : State) : Result :=
  ifInIllegalSet 0x97 (fun s => storeAt (eaZpy zp s) 4 (s.a &&& s.x) s) s

/-! ### LAX (R358) -/

/-- LAX (zp,X) (R358, row 0xA3). -/
def execLaxIzx (zp : Byte) (s : State) : Result :=
  ifInIllegalSet 0xA3 (fun s => readThen (eaIzx zp s) 6 loadAX s) s

/-- LAX zp (R358, row 0xA7). -/
def execLaxZp (zp : Byte) (s : State) : Result :=
  ifInIllegalSet 0xA7 (fun s => readThen (eaZp zp) 3 loadAX s) s

/-- LAX abs (R358, row 0xAF). -/
def execLaxAbs (a : Addr) (s : State) : Result :=
  ifInIllegalSet 0xAF (fun s => readThen (eaAbs a) 4 loadAX s) s

/-- LAX (zp),Y (R358, row 0xB3). -/
def execLaxIzy (zp : Byte) (s : State) : Result :=
  ifInIllegalSet 0xB3 (fun s => readThen (eaIzy zp s) 5 loadAX s) s

/-- LAX zp,Y (R358, row 0xB7). -/
def execLaxZpy (zp : Byte) (s : State) : Result :=
  ifInIllegalSet 0xB7 (fun s => readThen (eaZpy zp s) 4 loadAX s) s

/-- LAX abs,Y (R358, row 0xBF). -/
def execLaxAbsy (a : Addr) (s : State) : Result :=
  ifInIllegalSet 0xBF (fun s => readThen (eaAbsy a s) 4 loadAX s) s

/-! ### DCP (R359) -/

/-- DCP (zp,X) (R359, row 0xC3). -/
def execDcpIzx (zp : Byte) (s : State) : Result :=
  ifInIllegalSet 0xC3 (fun s => modifyAt (eaIzx zp s) 8 decrement compareA s) s

/-- DCP zp (R359, row 0xC7). -/
def execDcpZp (zp : Byte) (s : State) : Result :=
  ifInIllegalSet 0xC7 (fun s => modifyAt (eaZp zp) 5 decrement compareA s) s

/-- DCP abs (R359, row 0xCF). -/
def execDcpAbs (a : Addr) (s : State) : Result :=
  ifInIllegalSet 0xCF (fun s => modifyAt (eaAbs a) 6 decrement compareA s) s

/-- DCP (zp),Y (R359, row 0xD3). -/
def execDcpIzy (zp : Byte) (s : State) : Result :=
  ifInIllegalSet 0xD3 (fun s => modifyAt (eaIzy zp s) 8 decrement compareA s) s

/-- DCP zp,X (R359, row 0xD7). -/
def execDcpZpx (zp : Byte) (s : State) : Result :=
  ifInIllegalSet 0xD7 (fun s => modifyAt (eaZpx zp s) 6 decrement compareA s) s

/-- DCP abs,Y (R359, row 0xDB). -/
def execDcpAbsy (a : Addr) (s : State) : Result :=
  ifInIllegalSet 0xDB (fun s => modifyAt (eaAbsy a s) 7 decrement compareA s) s

/-- DCP abs,X (R359, row 0xDF). -/
def execDcpAbsx (a : Addr) (s : State) : Result :=
  ifInIllegalSet 0xDF (fun s => modifyAt (eaAbsx a s) 7 decrement compareA s) s

/-! ### ISC (R360) -/

/-- ISC (zp,X) (R360, row 0xE3). -/
def execIscIzx (zp : Byte) (s : State) : Result :=
  ifInIllegalSet 0xE3 (fun s => modifyAt (eaIzx zp s) 8 increment subtractWithBorrow s) s

/-- ISC zp (R360, row 0xE7). -/
def execIscZp (zp : Byte) (s : State) : Result :=
  ifInIllegalSet 0xE7 (fun s => modifyAt (eaZp zp) 5 increment subtractWithBorrow s) s

/-- ISC abs (R360, row 0xEF). -/
def execIscAbs (a : Addr) (s : State) : Result :=
  ifInIllegalSet 0xEF (fun s => modifyAt (eaAbs a) 6 increment subtractWithBorrow s) s

/-- ISC (zp),Y (R360, row 0xF3). -/
def execIscIzy (zp : Byte) (s : State) : Result :=
  ifInIllegalSet 0xF3 (fun s => modifyAt (eaIzy zp s) 8 increment subtractWithBorrow s) s

/-- ISC zp,X (R360, row 0xF7). -/
def execIscZpx (zp : Byte) (s : State) : Result :=
  ifInIllegalSet 0xF7 (fun s => modifyAt (eaZpx zp s) 6 increment subtractWithBorrow s) s

/-- ISC abs,Y (R360, row 0xFB). -/
def execIscAbsy (a : Addr) (s : State) : Result :=
  ifInIllegalSet 0xFB (fun s => modifyAt (eaAbsy a s) 7 increment subtractWithBorrow s) s

/-- ISC abs,X (R360, row 0xFF). -/
def execIscAbsx (a : Addr) (s : State) : Result :=
  ifInIllegalSet 0xFF (fun s => modifyAt (eaAbsx a s) 7 increment subtractWithBorrow s) s

/-! ### ANC (R361) -/

/-- ANC # (R361, rows 0x0B, 0x2B). -/
def execAncImm (op : Byte) (v : Byte) (s : State) : Result :=
  ifInIllegalSet op (fun s => complete 2 (andCopyN v s)) s

/-! ### ALR (R362) -/

/-- ALR # (R362, row 0x4B). -/
def execAlrImm (v : Byte) (s : State) : Result :=
  ifInIllegalSet 0x4B (fun s => complete 2 (andShiftRight v s)) s

/-! ### ARR (R363) -/

/-- ARR # (R363, row 0x6B). -/
def execArrImm (v : Byte) (s : State) : Result :=
  ifInIllegalSet 0x6B (fun s => complete 2 (andRotateRight v s)) s

/-! ### SBX (R364) -/

/-- SBX # (R364, row 0xCB). -/
def execSbxImm (v : Byte) (s : State) : Result :=
  ifInIllegalSet 0xCB (fun s => complete 2 (subtractFromAX v s)) s

/-! ### USBC (R365) -/

/-- USBC # (R365, row 0xEB). -/
def execUsbcImm (v : Byte) (s : State) : Result :=
  ifInIllegalSet 0xEB (fun s => complete 2 (subtractWithBorrow v s)) s

/-! ### NOP (R366) -/

/-- NOP zp (R366, rows 0x04, 0x44, 0x64). -/
def execNopZp (op : Byte) (_zp : Byte) (s : State) : Result :=
  ifInIllegalSet op (fun s => complete 3 s) s

/-- NOP abs (R366, row 0x0C). -/
def execNopAbs (_a : Addr) (s : State) : Result :=
  ifInIllegalSet 0x0C (fun s => complete 4 s) s

/-- NOP zp,X (R366, rows 0x14, 0x34, 0x54, 0x74, 0xD4, 0xF4). -/
def execNopZpx (op : Byte) (_zp : Byte) (s : State) : Result :=
  ifInIllegalSet op (fun s => complete 4 s) s

/-- NOP (R366, rows 0x1A, 0x3A, 0x5A, 0x7A, 0xDA, 0xFA). -/
def execNopImp (op : Byte) (s : State) : Result :=
  ifInIllegalSet op (fun s => complete 2 s) s

/-- NOP abs,X (R366, rows 0x1C, 0x3C, 0x5C, 0x7C, 0xDC, 0xFC). -/
def execNopAbsx (op : Byte) (a : Addr) (s : State) : Result :=
  ifInIllegalSet op (fun s => complete ((eaAbsx a s).cost 4) s) s

/-- NOP # (R366, rows 0x80, 0x82, 0x89, 0xC2, 0xE2). -/
def execNopImm (op : Byte) (_v : Byte) (s : State) : Result :=
  ifInIllegalSet op (fun s => complete 2 s) s

/-! ### ANE (R371) -/

/-- ANE # (R371, row 0x8B). -/
def execAneImm (_v : Byte) (s : State) : Result :=
  unstableOpcode 0x8B s

/-! ### LXA (R372) -/

/-- LXA # (R372, row 0xAB). -/
def execLxaImm (_v : Byte) (s : State) : Result :=
  unstableOpcode 0xAB s

/-! ### SHA (R373) -/

/-- SHA (zp),Y (R373, row 0x93). -/
def execShaIzy (_zp : Byte) (s : State) : Result :=
  unstableOpcode 0x93 s

/-- SHA abs,Y (R373, row 0x9F). -/
def execShaAbsy (_a : Addr) (s : State) : Result :=
  unstableOpcode 0x9F s

/-! ### SHX (R374) -/

/-- SHX abs,Y (R374, row 0x9E). -/
def execShxAbsy (_a : Addr) (s : State) : Result :=
  unstableOpcode 0x9E s

/-! ### SHY (R375) -/

/-- SHY abs,X (R375, row 0x9C). -/
def execShyAbsx (_a : Addr) (s : State) : Result :=
  unstableOpcode 0x9C s

/-! ### TAS (R376) -/

/-- TAS abs,Y (R376, row 0x9B). -/
def execTasAbsy (_a : Addr) (s : State) : Result :=
  unstableOpcode 0x9B s

/-! ### LAS (R377) -/

/-- LAS abs,Y (R377, row 0xBB). -/
def execLasAbsy (_a : Addr) (s : State) : Result :=
  unstableOpcode 0xBB s

end Sys2Proof.Machine
end

