-- ==== Sys2Proof/Machine/LoadStore.lean ====
section
/-!
DEFINITION. Machine/LoadStore.lean: the loads, stores, transfers and stack instructions (40_load_store_transfer.md).
Each meaning runs after the whole instruction has been fetched: the PC stands at the next instruction.
-/

namespace Sys2Proof.Machine

/-! ### LDA (R201) -/

/-- LDA (zp,X) (R201, row 0xA1). -/
def execLdaIzx (zp : Byte) (s : State) : Result :=
  readThen (eaIzx zp s) 6 setA s

/-- LDA zp (R201, row 0xA5). -/
def execLdaZp (zp : Byte) (s : State) : Result :=
  readThen (eaZp zp) 3 setA s

/-- LDA # (R201, row 0xA9). -/
def execLdaImm (v : Byte) (s : State) : Result :=
  complete 2 (setA v s)

/-- LDA abs (R201, row 0xAD). -/
def execLdaAbs (a : Addr) (s : State) : Result :=
  readThen (eaAbs a) 4 setA s

/-- LDA (zp),Y (R201, row 0xB1). -/
def execLdaIzy (zp : Byte) (s : State) : Result :=
  readThen (eaIzy zp s) 5 setA s

/-- LDA zp,X (R201, row 0xB5). -/
def execLdaZpx (zp : Byte) (s : State) : Result :=
  readThen (eaZpx zp s) 4 setA s

/-- LDA abs,Y (R201, row 0xB9). -/
def execLdaAbsy (a : Addr) (s : State) : Result :=
  readThen (eaAbsy a s) 4 setA s

/-- LDA abs,X (R201, row 0xBD). -/
def execLdaAbsx (a : Addr) (s : State) : Result :=
  readThen (eaAbsx a s) 4 setA s

/-! ### LDX (R202) -/

/-- LDX # (R202, row 0xA2). -/
def execLdxImm (v : Byte) (s : State) : Result :=
  complete 2 (setX v s)

/-- LDX zp (R202, row 0xA6). -/
def execLdxZp (zp : Byte) (s : State) : Result :=
  readThen (eaZp zp) 3 setX s

/-- LDX abs (R202, row 0xAE). -/
def execLdxAbs (a : Addr) (s : State) : Result :=
  readThen (eaAbs a) 4 setX s

/-- LDX zp,Y (R202, row 0xB6). -/
def execLdxZpy (zp : Byte) (s : State) : Result :=
  readThen (eaZpy zp s) 4 setX s

/-- LDX abs,Y (R202, row 0xBE). -/
def execLdxAbsy (a : Addr) (s : State) : Result :=
  readThen (eaAbsy a s) 4 setX s

/-! ### LDY (R203) -/

/-- LDY # (R203, row 0xA0). -/
def execLdyImm (v : Byte) (s : State) : Result :=
  complete 2 (setY v s)

/-- LDY zp (R203, row 0xA4). -/
def execLdyZp (zp : Byte) (s : State) : Result :=
  readThen (eaZp zp) 3 setY s

/-- LDY abs (R203, row 0xAC). -/
def execLdyAbs (a : Addr) (s : State) : Result :=
  readThen (eaAbs a) 4 setY s

/-- LDY zp,X (R203, row 0xB4). -/
def execLdyZpx (zp : Byte) (s : State) : Result :=
  readThen (eaZpx zp s) 4 setY s

/-- LDY abs,X (R203, row 0xBC). -/
def execLdyAbsx (a : Addr) (s : State) : Result :=
  readThen (eaAbsx a s) 4 setY s

/-! ### STA (R204) -/

/-- STA (zp,X) (R204, row 0x81). -/
def execStaIzx (zp : Byte) (s : State) : Result :=
  storeAt (eaIzx zp s) 6 s.a s

/-- STA zp (R204, row 0x85). -/
def execStaZp (zp : Byte) (s : State) : Result :=
  storeAt (eaZp zp) 3 s.a s

/-- STA abs (R204, row 0x8D). -/
def execStaAbs (a : Addr) (s : State) : Result :=
  storeAt (eaAbs a) 4 s.a s

/-- STA (zp),Y (R204, row 0x91). -/
def execStaIzy (zp : Byte) (s : State) : Result :=
  storeAt (eaIzy zp s) 6 s.a s

/-- STA zp,X (R204, row 0x95). -/
def execStaZpx (zp : Byte) (s : State) : Result :=
  storeAt (eaZpx zp s) 4 s.a s

/-- STA abs,Y (R204, row 0x99). -/
def execStaAbsy (a : Addr) (s : State) : Result :=
  storeAt (eaAbsy a s) 5 s.a s

/-- STA abs,X (R204, row 0x9D). -/
def execStaAbsx (a : Addr) (s : State) : Result :=
  storeAt (eaAbsx a s) 5 s.a s

/-! ### STX (R205) -/

/-- STX zp (R205, row 0x86). -/
def execStxZp (zp : Byte) (s : State) : Result :=
  storeAt (eaZp zp) 3 s.x s

/-- STX abs (R205, row 0x8E). -/
def execStxAbs (a : Addr) (s : State) : Result :=
  storeAt (eaAbs a) 4 s.x s

/-- STX zp,Y (R205, row 0x96). -/
def execStxZpy (zp : Byte) (s : State) : Result :=
  storeAt (eaZpy zp s) 4 s.x s

/-! ### STY (R206) -/

/-- STY zp (R206, row 0x84). -/
def execStyZp (zp : Byte) (s : State) : Result :=
  storeAt (eaZp zp) 3 s.y s

/-- STY abs (R206, row 0x8C). -/
def execStyAbs (a : Addr) (s : State) : Result :=
  storeAt (eaAbs a) 4 s.y s

/-- STY zp,X (R206, row 0x94). -/
def execStyZpx (zp : Byte) (s : State) : Result :=
  storeAt (eaZpx zp s) 4 s.y s

/-! ### TAX (R207) -/

/-- TAX (R207, row 0xAA). -/
def execTax (s : State) : Result :=
  complete 2 (setX s.a s)

/-! ### TAY (R208) -/

/-- TAY (R208, row 0xA8). -/
def execTay (s : State) : Result :=
  complete 2 (setY s.a s)

/-! ### TXA (R209) -/

/-- TXA (R209, row 0x8A). -/
def execTxa (s : State) : Result :=
  complete 2 (setA s.x s)

/-! ### TYA (R210) -/

/-- TYA (R210, row 0x98). -/
def execTya (s : State) : Result :=
  complete 2 (setA s.y s)

/-! ### TSX (R211) -/

/-- TSX (R211, row 0xBA). -/
def execTsx (s : State) : Result :=
  complete 2 (setX s.sp s)

/-! ### TXS (R212) -/

/-- TXS (R212, row 0x9A). -/
def execTxs (s : State) : Result :=
  complete 2 { s with sp := s.x }

/-! ### PHA (R213) -/

/-- PHA (R213, row 0x48). -/
def execPha (s : State) : Result :=
  complete 3 (push s.a s)

/-! ### PHP (R214) -/

/-- PHP (R214, row 0x08). -/
def execPhp (s : State) : Result :=
  complete 3 (push (getP s.flags) s)

/-! ### PLA (R215) -/

/-- PLA (R215, row 0x68). -/
def execPla (s : State) : Result :=
  let (v, s) := pull s
  complete 4 (setA v s)

/-! ### PLP (R216) -/

/-- PLP (R216, row 0x28). -/
def execPlp (s : State) : Result :=
  let (v, s) := pull s
  complete 4 (setP v s)

end Sys2Proof.Machine
end

