-- ==== Sys2Proof/Machine/Cpu.lean ====
section
/-!
DEFINITION. Machine/Cpu.lean: fetching an instruction (R104) and the CPU's step (R400).
-/

namespace Sys2Proof.Machine

/-- How many bytes the step fetches for an opcode: an undecoded opcode consumes the opcode byte alone (R370). -/
def fetchLength (p : Params) (op : Byte) : Nat := if isUndecoded p op then 1 else opcodeLength op

/-- A further byte, fetched if `wanted`; a byte that is not fetched is passed on as 0, and no meaning looks at it. -/
def fetchIf (wanted : Bool) (s : State) : Byte × State := if wanted then fetch s else (0, s)

/-- The instruction of an opcode, its operand bytes fetched at the PC, and the state after. -/
def fetchOperands (op : Byte) (s : State) : Instr × State :=
  let (b1, s) := fetchIf (decide (2 ≤ fetchLength s.params op)) s
  let (b2, s) := fetchIf (decide (3 ≤ fetchLength s.params op)) s
  (decodeBytes op b1 b2, s)

/-- The instruction at the PC, every byte read with MemRead in address order (R104, R105), and the state after. -/
def fetchInstr (s : State) : Instr × State :=
  let (op, s) := fetch s
  fetchOperands op s

/-- The fetch and the execution of one instruction (R400, last lines). -/
def fetchExecute (s : State) : Result :=
  let (i, s) := fetchInstr s
  exec i s

/-- `kernalTrap(a)` (R418): the callback, then TRAP_RETURN_OPCODE interpreted in place of the byte at the trap address,
which is not read. With the default 0x60 that is the forced RTS and its 6 cycles; another opcode is log entry 20. -/
def kernalTrap (addr : Addr) (s : State) : Result :=
  let s := (callTrap addr s).record (.trap addr)
  let (i, s) := fetchOperands s.params.trapReturnOpcode { s with pc := s.pc + 1 }
  exec i s

/-- What a RUNNING CPU does when no interrupt is taken: the kernal trap if the PC is in TRAP_WINDOW, else the instruction
at the PC (R400, R412). -/
def trapOrExecute (s : State) : Result :=
  if inTrapWindow s.params s.pc then kernalTrap s.pc s else fetchExecute s

/-- A step of a RUNNING CPU with no reset pending (R400): NMI, then IRQ if I is clear, then the trap or the instruction;
every one of them clears irqPending (R406). -/
def runningStep (s : State) : Result :=
  if s.nmiPending then
    .next (enterInterrupt s.params.vecNmi .nmi { s with nmiPending := false, irqPending := false })
  else if s.irqPending && !s.flags.i then
    .next (enterInterrupt s.params.vecIrq .irq { s with irqPending := false })
  else trapOrExecute { s with irqPending := false }

/-- `step()`, "the CPU's only transition" (R400). -/
def cpuStep (s : State) : Result :=
  if s.resetPending then .next (doReset s)
  else
    match s.mode with
    | .jammed => .next (jammedIdle s)
    | .running => runningStep s

/-! ## Placing an instruction where the next step fetches it -/

/-- Does any of the three bytes at the PC lie in the I/O shadow? -/
def fetchesFromIO (s : State) : Bool := isIO s.pc s || isIO (s.pc + 1) s || isIO (s.pc + 2) s

/-- The state in which nothing comes before the instruction at the PC, and that instruction is fetched from RAM: no request
pending, a RUNNING CPU outside a frame with no action of the host to come, the I/O shadow banked out if the bytes at the PC
lie in it, no trap window if the PC lies in it. A field that is so already is left as it is. -/
def readyToFetch (s : State) : State :=
  let s := { s with
    resetPending := false, nmiPending := false, irqPending := false, mode := .running,
    phase := .idle, frameRequests := 0, hostActions := [] }
  let s := if fetchesFromIO s then { s with ram := s.ram.write s.params.bankCtrlAddr.toNat (s.ram.read s.params.bankCtrlAddr.toNat &&& 0xFC) } else s
  if inTrapWindow s.params s.pc then { s with params := { s.params with trapWindow := [] } } else s

/-- The bytes of a table word stored at the PC. -/
def placeInstr (nbits w : Nat) (s : State) : State :=
  let s := storeRam s.pc (tableByte nbits w 0) s
  let s := storeRam (s.pc + 1) (tableByte nbits w 1) s
  storeRam (s.pc + 2) (tableByte nbits w 2) s

end Sys2Proof.Machine
end

