-- ==== Sys2Proof/Machine/Video.lean ====
section
/-!
DEFINITION. Machine/Video.lean: the raster line renderer (62_video.md). The unit reads RAM and SHADOW raw (R500) and
writes neither (R111).
-/

namespace Sys2Proof.Machine

/-! ## Registers (R501, R504) -/

/-- The low nibble of a byte, as a colour (R501, R503). -/
def nibble (b : Byte) : Pixel := b.setWidth 4

/-- The high nibble of a byte, as a colour (R518). -/
def highNibble (b : Byte) : Pixel := (b >>> 4).setWidth 4

/-- The video register at an offset from $D000 (R500). -/
def videoReg (sh : Memory) (off : Nat) : Byte := sh.read off

/-- Control 1, $D011 (R501). -/
def displayEnable (sh : Memory) : Bool := (videoReg sh 0x11).getLsbD 4
def bitmapMode (sh : Memory) : Bool := (videoReg sh 0x11).getLsbD 5
def extendedColour (sh : Memory) : Bool := (videoReg sh 0x11).getLsbD 6
def rows25 (sh : Memory) : Bool := (videoReg sh 0x11).getLsbD 3
def yScroll (sh : Memory) : Nat := (videoReg sh 0x11).toNat % 8

/-- Control 2, $D016 (R501). -/
def multicolour (sh : Memory) : Bool := (videoReg sh 0x16).getLsbD 4
def columns40 (sh : Memory) : Bool := (videoReg sh 0x16).getLsbD 3
def xScroll (sh : Memory) : Nat := (videoReg sh 0x16).toNat % 8

/-- The border colour, $D020 (R501). -/
def borderColour (sh : Memory) : Pixel := nibble (videoReg sh 0x20)

/-- The background colour B<k>, $D021 + k (R501). -/
def background (sh : Memory) (k : Nat) : Pixel := nibble (videoReg sh (0x21 + k))

/-- The bank, $DD00 bits 1:0 inverted (R504). -/
def videoBank (sh : Memory) : Nat := (3 - (sh.read 0xD00).toNat % 4) * 0x4000

/-- `screenBase` (R504). -/
def screenBase (sh : Memory) : Nat := videoBank sh + (videoReg sh 0x18).toNat / 16 % 16 * 0x400

/-- `charBase` (R504). -/
def charBase (sh : Memory) : Nat := videoBank sh + (videoReg sh 0x18).toNat / 2 % 8 * 0x800

/-- `bitmapBase` (R504). -/
def bitmapBase (sh : Memory) : Nat := videoBank sh + (videoReg sh 0x18).toNat / 8 % 2 * 0x2000

/-! ## Per frame (R510) -/

/-- `videoBeginFrame()` (R510). -/
def beginFrameVideo (v : Video) : Video :=
  { v with
    fetchedRows := 0
    curRow := 0
    rc := 0
    displayOn := false
    sprites := v.sprites.map fun _ => ⟨false, 0⟩ }

/-- `videoSwap()` (R530): the rendered surface becomes the one the consumer reads. -/
def swapSurfaces (v : Video) : Video := { v with front := v.back, back := v.front }

/-! ## The badline (R514) -/

/-- Is line n a badline (R514)? -/
def isBadline (sh : Memory) (n : Nat) (v : Video) : Bool :=
  displayEnable sh && decide (0x30 ≤ n) && decide (n ≤ 0xF7) && decide (n % 8 = yScroll sh) &&
    decide (v.fetchedRows < 25)

/-- The 40 screen codes of a character row (R514). -/
def fetchScreen (ram sh : Memory) (row : Nat) : List Byte :=
  (List.range 40).map fun c => ram.read (screenBase sh + row * 40 + c)

/-- The 40 colours of a character row (R503, R514). -/
def fetchColours (sh : Memory) (row : Nat) : List Pixel :=
  (List.range 40).map fun c => nibble (sh.read (0x800 + row * 40 + c))

/-- The badline test and its effect (R514). -/
def badlineStep (ram sh : Memory) (n : Nat) (v : Video) : Video :=
  if isBadline sh n v then
    { v with
      curRow := v.fetchedRows
      fetchedRows := v.fetchedRows + 1
      screenRow := fetchScreen ram sh v.fetchedRows
      colorRow := fetchColours sh v.fetchedRows
      rc := 0
      displayOn := true }
  else if v.displayOn then
    if v.rc + 1 = 8 then { v with rc := 0, displayOn := false } else { v with rc := v.rc + 1 }
  else v

/-! ## Sprite activation and row advance (R520, R522) -/

/-- The sprites, each changed by its index. -/
def mapSprites (f : Nat → Sprite → Sprite) : Nat → List Sprite → List Sprite
  | _, [] => []
  | i, p :: ps => f i p :: mapSprites f (i + 1) ps

/-- Is sprite i enabled, $D015 (R501)? -/
def spriteEnabled (sh : Memory) (i : Nat) : Bool := (videoReg sh 0x15).getLsbD i

/-- Activation of one sprite on line n (R520). -/
def activateSprite (sh : Memory) (n i : Nat) (p : Sprite) : Sprite :=
  if !p.active && spriteEnabled sh i && decide (n % 256 = ((videoReg sh (1 + 2 * i)).toNat + 1) % 256) then ⟨true, 0⟩
  else p

/-- The row advance of one sprite (R522). -/
def advanceSprite (p : Sprite) : Sprite :=
  if p.active then (if p.row + 1 = 21 then ⟨false, 0⟩ else ⟨true, p.row + 1⟩) else p

/-! ## Rendering (R516 to R519, R526) -/

/-- Is line n in the vertical border (R516, path (a))? Its bounds are R516's literal lines, whatever VISIBLE_FIRST is: DESIGN
CHOICE, log entry 21. -/
def verticalBorder (sh : Memory) (n : Nat) : Bool :=
  if rows25 sh then decide (n < 51) || decide (250 < n) else decide (n < 55) || decide (246 < n)

/-- Is the mode illegal (R516, path (b))? -/
def illegalMode (sh : Memory) : Bool := extendedColour sh && (bitmapMode sh || multicolour sh)

/-- The two-bit pair of a graphics byte at pixel px (R517, R518). -/
def pixelPair (g : Byte) (px : Nat) : Nat := g.toNat / 2 ^ (6 - px / 2 * 2) % 4

/-- A pixel of character mode at graphics column sx (R517). -/
def charPixel (ram sh : Memory) (v : Video) (sx : Nat) : Pixel :=
  let px := sx % 8
  let code := (v.screenRow.getD (sx / 8) 0).toNat
  let col := v.colorRow.getD (sx / 8) 0
  if extendedColour sh then
    let f := ram.read (charBase sh + code % 64 * 8 + v.rc)
    if f.getLsbD (7 - px) then col else background sh (code / 64)
  else
    let f := ram.read (charBase sh + code * 8 + v.rc)
    if multicolour sh then
      if col.getLsbD 3 then
        match pixelPair f px with
        | 0 => background sh 0
        | 1 => background sh 1
        | 2 => background sh 2
        | _ => col &&& 7
      else if f.getLsbD (7 - px) then col &&& 7 else background sh 0
    else if f.getLsbD (7 - px) then col else background sh 0

/-- A pixel of bitmap mode at graphics column sx (R518). -/
def bitmapPixel (ram sh : Memory) (v : Video) (sx : Nat) : Pixel :=
  let px := sx % 8
  let s := v.screenRow.getD (sx / 8) 0
  let g := ram.read (bitmapBase sh + v.curRow * 320 + sx / 8 * 8 + v.rc)
  if multicolour sh then
    match pixelPair g px with
    | 0 => background sh 0
    | 1 => highNibble s
    | 2 => nibble s
    | _ => v.colorRow.getD (sx / 8) 0
  else if g.getLsbD (7 - px) then highNibble s else nibble s

/-- A pixel of paths (c) and (d) at surface column x: the graphics are shifted right by XSCROLL (R517, R518). -/
def graphicsPixel (ram sh : Memory) (v : Video) (x : Nat) : Pixel :=
  if x < xScroll sh then background sh 0
  else if bitmapMode sh then bitmapPixel ram sh v (x - xScroll sh)
  else charPixel ram sh v (x - xScroll sh)

/-- The pixels below the sprites on paths (b), (c) and (d) (R516). -/
def graphicsRow (ram sh : Memory) (v : Video) : List Pixel :=
  if !v.displayOn || illegalMode sh then List.replicate 320 0
  else (List.range 320).map (graphicsPixel ram sh v)

/-- The 24 bits of sprite i's current row (R526). -/
def spriteData (ram sh : Memory) (i row : Nat) : Nat :=
  let a := videoBank sh + (ram.read (screenBase sh + 0x3F8 + i)).toNat * 64 + 3 * row
  (ram.read a).toNat * 65536 + (ram.read (a + 1)).toNat * 256 + (ram.read (a + 2)).toNat

/-- `X_i`, nine bits (R501, R526). -/
def spriteX (sh : Memory) (i : Nat) : Nat :=
  (videoReg sh (2 * i)).toNat + (if (videoReg sh 0x10).getLsbD i then 256 else 0)

/-- The colour of source pixel j of sprite i's row data, or none where it is transparent (R526). -/
def spriteColour (sh : Memory) (i d j : Nat) : Option Pixel :=
  let own := nibble (videoReg sh (0x27 + i))
  if (videoReg sh 0x1C).getLsbD i then
    match d / 2 ^ (22 - 2 * (j / 2)) % 4 with
    | 0 => none
    | 1 => some (nibble (videoReg sh 0x25))
    | 2 => some own
    | _ => some (nibble (videoReg sh 0x26))
  else if d.testBit (23 - j) then some own else none

/-- A pixel drawn into a row where its column is on the surface (R526). -/
def putPixel (row : List Pixel) (x : Int) (colour : Pixel) : List Pixel :=
  if 0 ≤ x ∧ x < 320 then row.set x.toNat colour else row

/-- Source pixel j of sprite i, drawn w columns wide (R524, R526). -/
def drawSpritePixel (sh : Memory) (i d : Nat) (row : List Pixel) (j : Nat) : List Pixel :=
  let w : Nat := if (videoReg sh 0x1D).getLsbD i then 2 else 1
  match spriteColour sh i d j with
  | none => row
  | some colour =>
    (List.range w).foldl (fun r (k : Nat) => putPixel r ((spriteX sh i : Int) - 24 + ((w * j + k : Nat) : Int)) colour) row

/-- Sprite i drawn into a row, if it is active and enabled (R526). -/
def drawSprite (ram sh : Memory) (v : Video) (row : List Pixel) (i : Nat) : List Pixel :=
  let p := v.sprites.getD i ⟨false, 0⟩
  if p.active && spriteEnabled sh i then
    (List.range 24).foldl (drawSpritePixel sh i (spriteData ram sh i p.row)) row
  else row

/-- The eight sprites, "back-to-front (index 7 drawn first)" (R526). -/
def drawSprites (ram sh : Memory) (v : Video) (row : List Pixel) : List Pixel :=
  [7, 6, 5, 4, 3, 2, 1, 0].foldl (drawSprite ram sh v) row

/-- The horizontal border mask (R519). -/
def maskBorder (sh : Memory) (row : List Pixel) : List Pixel :=
  if columns40 sh then row
  else List.replicate 7 (borderColour sh) ++ ((row.drop 7).take 304 ++ List.replicate 9 (borderColour sh))

/-- The 320 pixels of visible line n (R516). -/
def renderRow (ram sh : Memory) (n : Nat) (v : Video) : List Pixel :=
  if !displayEnable sh || verticalBorder sh n then List.replicate 320 (borderColour sh)
  else maskBorder sh (drawSprites ram sh v (graphicsRow ram sh v))

/-- Is line n visible (R458)? -/
def isVisible (p : Params) (n : Nat) : Bool := decide (p.visibleFirst ≤ n) && decide (n < p.visibleFirst + p.visibleCount)

/-- The rendering of line n, if it is visible, into its surface row (R512, R458). DESIGN CHOICE, log entry 21: where VISIBLE_FIRST
is not 51 the row is n - VISIBLE_FIRST, for the n - 51 that the rules write. -/
def renderLine (p : Params) (ram sh : Memory) (n : Nat) (v : Video) : Video :=
  if isVisible p n then { v with back := v.back.set (n - p.visibleFirst) (renderRow ram sh n v) } else v

/-- `videoLine(n)` (R512). -/
def videoLine (p : Params) (ram sh : Memory) (n : Nat) (v : Video) : Video :=
  let v := badlineStep ram sh n v
  let v := { v with sprites := mapSprites (activateSprite sh n) 0 v.sprites }
  let v := renderLine p ram sh n v
  { v with sprites := mapSprites (fun _ => advanceSprite) 0 v.sprites }

end Sys2Proof.Machine
end

