-- ==== Sys2Proof/Machine/Scheduler.lean ====
section
/-!
DEFINITION. Machine/Scheduler.lean: the frame loop, the raster interrupt, the CIA timer, boot, the host's actions and the
block's step (61_scheduler.md). The loop of R450 is given twice: as the block's steps, one action each (`blockStep`), and
whole, as the spec writes it (`runFrame`).
-/

namespace Sys2Proof.Machine

/-! ## Interrupt conditions at a line's start (R454, R460) -/

/-- `rasterTarget`, nine bits from two registers (R454). -/
def rasterTarget (sh : Memory) : Nat :=
  (sh.read 0x012).toNat + (if (sh.read 0x011).getLsbD 7 then 256 else 0)

/-- `rasterCheck()` (R454). -/
def rasterCheck (s : State) : State :=
  if (s.shadow.read 0x01A).getLsbD 0 && decide (s.line = rasterTarget s.shadow) then { s with rasterLatched := true }
  else s

/-- The reload loop of R460, `while timerCounter < 0`: each pass adds at least 1, so a counter c needs at most -c passes. -/
def reloadTimer (latch : Nat) : Nat → Int → Int
  | 0, c => c
  | fuel + 1, c => if c < 0 then reloadTimer latch fuel (c + latch + 1) else c

/-- `timerLine()` (R460). -/
def timerLine (s : State) : State :=
  if (s.shadow.read 0xC0E).getLsbD 0 then
    let c := s.timerCounter - (s.params.cyclesPerLine : Int)
    { s with
      timerCounter := reloadTimer s.timerLatch.toNat (-c).toNat c
      timerLatched := s.timerLatched || (decide (c < 0) && s.icrMask.getLsbD 0) }
  else s

/-! ## The parts of a frame (R450, R452) -/

/-- The start of a frame (R450, R510): one frame request is consumed. -/
def beginFrame (s : State) : State :=
  { s with
    video := beginFrameVideo s.video
    frameRequests := s.frameRequests - 1
    phase := if 0 < s.params.linesPerFrame then .lineStart 0 else .frameEnd }

/-- The start of line n (R452): the line counter, the raster check, the timer, the new target. -/
def beginLine (n : Nat) (s : State) : State :=
  let s := timerLine (rasterCheck { s with line := n })
  { s with lineTarget := s.lineTarget + s.params.cyclesPerLine, phase := .cpuLoop }

/-- `irqPending <- rasterLatched or timerLatched` (R456). -/
def driveIrqLine (s : State) : State := { s with irqPending := s.rasterLatched || s.timerLatched }

/-- The end of the current line (R452): `videoLine`, then the next line or the end of the frame. -/
def endLine (s : State) : State :=
  { s with
    video := videoLine s.params s.ram s.shadow s.line s.video
    phase := if s.line + 1 < s.params.linesPerFrame then .lineStart (s.line + 1) else .frameEnd }

/-- The end of a frame (R450): the audio flush, then the swap of the surfaces. -/
def endFrame (s : State) : State :=
  let s := audioFlush true s
  { s with video := swapSurfaces s.video, phase := .idle }

/-! ## The block's step -/

/-- One action of the block: outside a frame a step of the CPU alone (R456) or the start of a frame that was asked for;
inside a frame the next action of R450 and R452. -/
def blockStep (s : State) : Result :=
  match s.phase with
  | .idle => if s.frameRequests = 0 then cpuStep s else .next (beginFrame s)
  | .lineStart n => .next (beginLine n s)
  | .cpuLoop => if s.cycles < s.lineTarget then cpuStep (driveIrqLine s) else .next (endLine s)
  | .frameEnd => .next (endFrame s)

/-! ## Boot and the host's actions (R9, R470) -/

/-- A bulk load from an address upward; "must not attempt to copy past address 65535 (clamp)" (R96). -/
def loadBytes (m : Memory) (start : Nat) : List Byte → Memory
  | [] => m
  | b :: bs => if start < ramSize then loadBytes (m.write start b) (start + 1) bs else m

/-- The boot step (R470) on a file's bytes; a missing file, or one too short to hold a load address (log entry 9), is a
no-op. DESIGN CHOICE, log entry 19: the `end` that BOOT_PATCH receives is the load address plus the number of bytes after
it, one past the last byte, not clamped where the load is (R96). -/
def loadImage (file : Option (List Byte)) (s : State) : State :=
  match file with
  | some (b0 :: b1 :: rest) =>
    let load := mkAddr b0 b1
    let entry := Config.bootEntry load
    let loaded := loadBytes s.ram load.toNat rest
    let patched := loaded.writeAll ((Config.bootPatch load (load.toNat + rest.length)).map fun w => (w.1.toNat, w.2))
    { s with
      ram := (patched.write s.params.vecReset.toNat (loByte entry)).write (s.params.vecReset + 1).toNat (hiByte entry)
      resetPending := true }
  | _ => s

/-- What an action of the host does to the block. -/
def applyAction (act : HostAction) (s : State) : State :=
  match act with
  | .pause => s
  | .requestReset => { s with resetPending := true }
  | .requestNmi => { s with nmiPending := true }
  | .driveIrq level => { s with irqPending := level }
  | .requestFrame => { s with frameRequests := s.frameRequests + 1 }
  | .loadImage file => loadImage file s
  | .consume k => { s with audio := (consumeSamples k s.audio).2 }

/-- The actions of the host and of the consumer that land before the next step, in order, up to the first pause; any number
of them may (R401, R404, R580). -/
def takeListed : List HostAction → State → State
  | [], s => { s with hostActions := [] }
  | .pause :: rest, s => { s with hostActions := rest }
  | act :: rest, s => takeListed rest (applyAction act s)

/-- The actions of the host that land before the next step. -/
def takeActions (s : State) : State := takeListed s.hostActions s

/-! ## The loop of R450, whole -/

/-- The `while cycles < lineTarget` loop of R452; each pass adds at least one cycle (R453), which bounds the passes. -/
def runCpu : Nat → State → Result
  | 0, s => .next s
  | fuel + 1, s =>
    if s.cycles < s.lineTarget then
      match cpuStep (driveIrqLine s) with
      | .next t => runCpu fuel t
      | .fault r => .fault r
      | .refused r => .refused r
    else .next s

/-- `runLine(n)` (R452). -/
def runLine (n : Nat) (s : State) : Result :=
  let s := beginLine n s
  match runCpu (s.lineTarget - s.cycles) s with
  | .next t => .next (endLine t)
  | .fault r => .fault r
  | .refused r => .refused r

/-- The lines from n on, k of them (R450). -/
def runLines : Nat → Nat → State → Result
  | 0, _, s => .next s
  | k + 1, n, s =>
    match runLine n s with
    | .next t => runLines k (n + 1) t
    | .fault r => .fault r
    | .refused r => .refused r

/-- `runFrame()` (R450). -/
def runFrame (s : State) : Result :=
  match runLines s.params.linesPerFrame 0 (beginFrame s) with
  | .next t => .next (endFrame t)
  | .fault r => .fault r
  | .refused r => .refused r

end Sys2Proof.Machine
end

