-- ==== Sys2Proof/Machine/Step.lean ====
section
/-!
DEFINITION. Machine/Step.lean: the machine's step.
-/

namespace Sys2Proof.Machine

/-- One step: the actions of the host that land before it, then one action of the block. -/
def step (s : State) : Host.Outcome State Fault Refusal := blockStep (takeActions s)

/-- The state with an instruction of the opcode table stored where the next step fetches it. -/
def State.withFetchWord (s : State) (nbits w : Nat) : State := placeInstr nbits w (readyToFetch s)

end Sys2Proof.Machine
end

