-- ==== Sys2Proof/Machine/RealValue.lean ====
section
/-!
DEFINITION. Machine/RealValue.lean: the real number a term of the audio unit stands for, with the filter coefficients of R574
and the conditions of R575.
-/

namespace Sys2Proof.Machine

/-- The stability conditions of R575. -/
def StableReal (f q : ℝ) : Prop := 0 < f ∧ 0 < f * q ∧ f * q < 2 ∧ f ^ 2 + 2 * (f * q) < 4

open Classical in
/-- The host's own FILTER_COEFF: "any FILTER_COEFF a model uses must satisfy these three conditions" (R575), so the host's pair
where it does, else a pair that does (log entry 6). -/
noncomputable def hostCoeff (rate fc res : Nat) : ℝ × ℝ :=
  let (f, q) := Config.filterCoeff rate fc res
  if StableReal f q then (f, q) else (1, 1)

/-- The real number a term stands for. -/
noncomputable def RealTerm.toReal : RealTerm → ℝ
  | .rat r => r
  | .sqrtTwo => Real.sqrt 2
  | .formulaF rate fc => 2 * Real.sin (Real.pi * min (30 * (400 : ℝ) ^ ((fc : ℝ) / 2047)) ((rate : ℝ) / 6) / rate)
  | .hostF rate fc res => (hostCoeff rate fc res).1
  | .hostQ rate fc res => (hostCoeff rate fc res).2
  | .sum a b => a.toReal + b.toReal
  | .product a b => a.toReal * b.toReal
  | .clamp a => max (-1) (min 1 a.toReal)

end Sys2Proof.Machine
end

