-- ==== Sys2Proof/Safety.lean ====
section
/-!
DEFINITION. Safety.lean: the terms claims are made in: the invariants of the state, the opcode rows the rules name, the
addresses that take part in an access, and the default filter coefficients of R574 over the reals.
-/

namespace Sys2Proof.Safety

open Sys2Proof.Machine

/-! ## Invariants -/

/-- RAM and SHADOW are in canonical form (R50). -/
def MemoryInv (s : State) : Prop := s.ram.wf ramSize = true ∧ s.shadow.wf shadowSize = true

/-- The scheduler's ranges (R449): a line of the frame, and a counter that fits the 16-bit timer between two lines. -/
def SchedulerInv (s : State) : Prop :=
  s.line < s.params.linesPerFrame ∧ 0 ≤ s.timerCounter ∧ s.timerCounter < 65536 ∧
  (∀ n, s.phase = .lineStart n → n < s.params.linesPerFrame)

/-- A surface of 200 rows of 320 pixels (R502). -/
def SurfaceShape (f : List (List Pixel)) : Prop := f.length = 200 ∧ ∀ r ∈ f, r.length = 320

/-- The video unit's ranges (R502). -/
def VideoInv (v : Video) : Prop :=
  v.fetchedRows ≤ 25 ∧ v.curRow ≤ 24 ∧ v.rc ≤ 7 ∧ v.screenRow.length = 40 ∧ v.colorRow.length = 40 ∧
  v.sprites.length = 8 ∧ (∀ p ∈ v.sprites, p.row ≤ 20) ∧ SurfaceShape v.front ∧ SurfaceShape v.back

/-- A channel's ranges (R553). -/
def ChannelInv (c : Channel) : Prop := c.rateCtr ≤ 32767 ∧ c.expCtr ≤ 30

/-- A normalised sample (R576). -/
def UnitSample (q : RealTerm) : Prop := -1 ≤ q.toReal ∧ q.toReal ≤ 1

/-- The audio unit's ranges (R553, R576): the channels' counters, the queued samples and the last one delivered. -/
def AudioInv (au : Audio) : Prop :=
  ChannelInv au.ch0 ∧ ChannelInv au.ch1 ∧ ChannelInv au.ch2 ∧ (∀ q ∈ au.queue, UnitSample q) ∧ UnitSample au.lastOut

/-! ## What claims ask of the parameters (R8) -/

/-- A parameter that is a step's cost is not zero, as every step adds at least one cycle (R453). -/
def StepsCost (p : Params) : Prop :=
  0 < p.resetCycles ∧ 0 < p.intCycles ∧ 0 < p.undecodedCycles ∧ 0 < p.jamCycles ∧ 0 < p.jamStepCycles

/-- The most a step costs: 8 cycles for an instruction of the table (R620), or a parameter where that is more. -/
def stepBound (p : Params) : Nat :=
  [p.resetCycles, p.intCycles, p.undecodedCycles, p.jamCycles, p.jamStepCycles].foldl max 8

/-- The two cells of a vector come from RAM; the default vectors' always do (R99). -/
def InRam (vec : Addr) (s : State) : Prop := isIO vec s = false ∧ isIO (vec + 1) s = false

/-- No interception of the host's own is registered, so an access asks for no reset and draws no answer of the host's. -/
def NoHostCallback (p : Params) : Prop := p.readCallback ≠ .host ∧ p.writeCallback ≠ .host

/-! ## Opcode rows, as the rules list them -/

/-- The rows that write A (R41), and USBC, which writes it by R365. -/
def writesARows : List Byte :=
  [0xA1, 0xA5, 0xA9, 0xAD, 0xB1, 0xB5, 0xB9, 0xBD] ++ [0x68] ++ [0x8A] ++ [0x98] ++
  [0x61, 0x65, 0x69, 0x6D, 0x71, 0x75, 0x79, 0x7D] ++ [0xE1, 0xE5, 0xE9, 0xED, 0xF1, 0xF5, 0xF9, 0xFD] ++
  [0x21, 0x25, 0x29, 0x2D, 0x31, 0x35, 0x39, 0x3D] ++ [0x01, 0x05, 0x09, 0x0D, 0x11, 0x15, 0x19, 0x1D] ++
  [0x41, 0x45, 0x49, 0x4D, 0x51, 0x55, 0x59, 0x5D] ++ [0x0A] ++ [0x4A] ++ [0x2A] ++ [0x6A] ++
  [0x03, 0x07, 0x0F, 0x13, 0x17, 0x1B, 0x1F] ++ [0x23, 0x27, 0x2F, 0x33, 0x37, 0x3B, 0x3F] ++
  [0x43, 0x47, 0x4F, 0x53, 0x57, 0x5B, 0x5F] ++ [0x63, 0x67, 0x6F, 0x73, 0x77, 0x7B, 0x7F] ++
  [0xA3, 0xA7, 0xAF, 0xB3, 0xB7, 0xBF] ++ [0xE3, 0xE7, 0xEF, 0xF3, 0xF7, 0xFB, 0xFF] ++ [0x0B, 0x2B] ++ [0x4B] ++
  [0x6B] ++ [0xEB]

/-- The rows that write X (R41). -/
def writesXRows : List Byte :=
  [0xA2, 0xA6, 0xAE, 0xB6, 0xBE] ++ [0xAA] ++ [0xBA] ++ [0xE8] ++ [0xCA] ++ [0xA3, 0xA7, 0xAF, 0xB3, 0xB7, 0xBF] ++
  [0xCB]

/-- The rows that write Y (R41). -/
def writesYRows : List Byte :=
  [0xA0, 0xA4, 0xAC, 0xB4, 0xBC] ++ [0xA8] ++ [0xC8] ++ [0x88]

/-- The rows that write S: "TXS, every push and pull, ... BRK, JSR, RTS, RTI" (R41). -/
def writesSRows : List Byte :=
  [0x9A] ++ [0x48] ++ [0x08] ++ [0x68] ++ [0x28] ++ [0x20] ++ [0x60] ++ [0x40] ++ [0x00]

/-- The rows that write I (R45). -/
def writesIRows : List Byte :=
  [0x78] ++ [0x58] ++ [0x28] ++ [0x40] ++ [0x00]

/-- The rows that write D (R45). -/
def writesDRows : List Byte :=
  [0xF8] ++ [0xD8] ++ [0x28] ++ [0x40]

/-- The rows that write V (R45), and USBC, which writes it by R365. -/
def writesVRows : List Byte :=
  [0x61, 0x65, 0x69, 0x6D, 0x71, 0x75, 0x79, 0x7D] ++ [0xE1, 0xE5, 0xE9, 0xED, 0xF1, 0xF5, 0xF9, 0xFD] ++
  [0x24, 0x2C] ++ [0xB8] ++ [0x28] ++ [0x40] ++ [0x63, 0x67, 0x6F, 0x73, 0x77, 0x7B, 0x7F] ++
  [0xE3, 0xE7, 0xEF, 0xF3, 0xF7, 0xFB, 0xFF] ++ [0x6B] ++ [0xEB]

/-- The rows that write C (R45), and USBC, which writes it by R365. -/
def writesCRows : List Byte :=
  [0x61, 0x65, 0x69, 0x6D, 0x71, 0x75, 0x79, 0x7D] ++ [0xE1, 0xE5, 0xE9, 0xED, 0xF1, 0xF5, 0xF9, 0xFD] ++
  [0xC1, 0xC5, 0xC9, 0xCD, 0xD1, 0xD5, 0xD9, 0xDD] ++ [0xE0, 0xE4, 0xEC] ++ [0xC0, 0xC4, 0xCC] ++
  [0x06, 0x0A, 0x0E, 0x16, 0x1E] ++ [0x46, 0x4A, 0x4E, 0x56, 0x5E] ++ [0x26, 0x2A, 0x2E, 0x36, 0x3E] ++
  [0x66, 0x6A, 0x6E, 0x76, 0x7E] ++ [0x18] ++ [0x38] ++ [0x28] ++ [0x40] ++
  [0x03, 0x07, 0x0F, 0x13, 0x17, 0x1B, 0x1F] ++ [0x23, 0x27, 0x2F, 0x33, 0x37, 0x3B, 0x3F] ++
  [0x43, 0x47, 0x4F, 0x53, 0x57, 0x5B, 0x5F] ++ [0x63, 0x67, 0x6F, 0x73, 0x77, 0x7B, 0x7F] ++
  [0xC3, 0xC7, 0xCF, 0xD3, 0xD7, 0xDB, 0xDF] ++ [0xE3, 0xE7, 0xEF, 0xF3, 0xF7, 0xFB, 0xFF] ++ [0x0B, 0x2B] ++
  [0x4B] ++ [0x6B] ++ [0xCB] ++ [0xEB]

/-- The rows that write N and Z: "every instruction that calls SetZN, BIT, PLP RTI" (R45). -/
def writesNZRows : List Byte :=
  [0xA1, 0xA5, 0xA9, 0xAD, 0xB1, 0xB5, 0xB9, 0xBD] ++ [0xA2, 0xA6, 0xAE, 0xB6, 0xBE] ++
  [0xA0, 0xA4, 0xAC, 0xB4, 0xBC] ++ [0x68] ++ [0xAA] ++ [0xA8] ++ [0x8A] ++ [0x98] ++ [0xBA] ++
  [0x61, 0x65, 0x69, 0x6D, 0x71, 0x75, 0x79, 0x7D] ++ [0xE1, 0xE5, 0xE9, 0xED, 0xF1, 0xF5, 0xF9, 0xFD] ++
  [0x21, 0x25, 0x29, 0x2D, 0x31, 0x35, 0x39, 0x3D] ++ [0x01, 0x05, 0x09, 0x0D, 0x11, 0x15, 0x19, 0x1D] ++
  [0x41, 0x45, 0x49, 0x4D, 0x51, 0x55, 0x59, 0x5D] ++ [0x24, 0x2C] ++
  [0xC1, 0xC5, 0xC9, 0xCD, 0xD1, 0xD5, 0xD9, 0xDD] ++ [0xE0, 0xE4, 0xEC] ++ [0xC0, 0xC4, 0xCC] ++
  [0xE6, 0xEE, 0xF6, 0xFE] ++ [0xC6, 0xCE, 0xD6, 0xDE] ++ [0xE8] ++ [0xC8] ++ [0xCA] ++ [0x88] ++
  [0x06, 0x0A, 0x0E, 0x16, 0x1E] ++ [0x46, 0x4A, 0x4E, 0x56, 0x5E] ++ [0x26, 0x2A, 0x2E, 0x36, 0x3E] ++
  [0x66, 0x6A, 0x6E, 0x76, 0x7E] ++ [0x28] ++ [0x40] ++ [0x03, 0x07, 0x0F, 0x13, 0x17, 0x1B, 0x1F] ++
  [0x23, 0x27, 0x2F, 0x33, 0x37, 0x3B, 0x3F] ++ [0x43, 0x47, 0x4F, 0x53, 0x57, 0x5B, 0x5F] ++
  [0x63, 0x67, 0x6F, 0x73, 0x77, 0x7B, 0x7F] ++ [0xA3, 0xA7, 0xAF, 0xB3, 0xB7, 0xBF] ++
  [0xC3, 0xC7, 0xCF, 0xD3, 0xD7, 0xDB, 0xDF] ++ [0xE3, 0xE7, 0xEF, 0xF3, 0xF7, 0xFB, 0xFF] ++ [0x0B, 0x2B] ++
  [0x4B] ++ [0x6B] ++ [0xCB] ++ [0xEB]

/-- The rows that write the stack (R93). -/
def pushRows : List Byte :=
  [0x48] ++ [0x08] ++ [0x20] ++ [0x00]

/-- The rows after which the PC is not start + length (R42, R300 to R313). -/
def controlRows : List Byte :=
  [0x10] ++ [0x30] ++ [0x50] ++ [0x70] ++ [0x90] ++ [0xB0] ++ [0xD0] ++ [0xF0] ++ [0x4C, 0x6C] ++ [0x20] ++ [0x60] ++
  [0x40] ++ [0x00]

/-! ## The address an instruction stores to (R141 to R147) -/

/-- The address the one MemWrite of a storing or read-modify-write instruction goes to, with the address functions its
meaning uses; none for an instruction that makes no such write. -/
def storeAddress (i : Instr) (s : State) : Option Addr :=
  match i with
  | .brk | .oraIzx _ | .jam _ => none
  | .sloIzx zp => some (eaIzx zp s).addr
  | .nopZp _ _ | .oraZp _ => none
  | .aslZp zp => some (eaZp zp).addr
  | .sloZp zp => some (eaZp zp).addr
  | .php | .oraImm _ | .aslAcc | .ancImm _ _ | .nopAbs _ | .oraAbs _ => none
  | .aslAbs a => some (eaAbs a).addr
  | .sloAbs a => some (eaAbs a).addr
  | .bpl _ | .oraIzy _ => none
  | .sloIzy zp => some (eaIzy zp s).addr
  | .nopZpx _ _ | .oraZpx _ => none
  | .aslZpx zp => some (eaZpx zp s).addr
  | .sloZpx zp => some (eaZpx zp s).addr
  | .clc | .oraAbsy _ | .nopImp _ => none
  | .sloAbsy a => some (eaAbsy a s).addr
  | .nopAbsx _ _ | .oraAbsx _ => none
  | .aslAbsx a => some (eaAbsx a s).addr
  | .sloAbsx a => some (eaAbsx a s).addr
  | .jsrAbs _ | .andIzx _ => none
  | .rlaIzx zp => some (eaIzx zp s).addr
  | .bitZp _ | .andZp _ => none
  | .rolZp zp => some (eaZp zp).addr
  | .rlaZp zp => some (eaZp zp).addr
  | .plp | .andImm _ | .rolAcc | .bitAbs _ | .andAbs _ => none
  | .rolAbs a => some (eaAbs a).addr
  | .rlaAbs a => some (eaAbs a).addr
  | .bmi _ | .andIzy _ => none
  | .rlaIzy zp => some (eaIzy zp s).addr
  | .andZpx _ => none
  | .rolZpx zp => some (eaZpx zp s).addr
  | .rlaZpx zp => some (eaZpx zp s).addr
  | .sec | .andAbsy _ => none
  | .rlaAbsy a => some (eaAbsy a s).addr
  | .andAbsx _ => none
  | .rolAbsx a => some (eaAbsx a s).addr
  | .rlaAbsx a => some (eaAbsx a s).addr
  | .rti | .eorIzx _ => none
  | .sreIzx zp => some (eaIzx zp s).addr
  | .eorZp _ => none
  | .lsrZp zp => some (eaZp zp).addr
  | .sreZp zp => some (eaZp zp).addr
  | .pha | .eorImm _ | .lsrAcc | .alrImm _ | .jmpAbs _ | .eorAbs _ => none
  | .lsrAbs a => some (eaAbs a).addr
  | .sreAbs a => some (eaAbs a).addr
  | .bvc _ | .eorIzy _ => none
  | .sreIzy zp => some (eaIzy zp s).addr
  | .eorZpx _ => none
  | .lsrZpx zp => some (eaZpx zp s).addr
  | .sreZpx zp => some (eaZpx zp s).addr
  | .cli | .eorAbsy _ => none
  | .sreAbsy a => some (eaAbsy a s).addr
  | .eorAbsx _ => none
  | .lsrAbsx a => some (eaAbsx a s).addr
  | .sreAbsx a => some (eaAbsx a s).addr
  | .rts | .adcIzx _ => none
  | .rraIzx zp => some (eaIzx zp s).addr
  | .adcZp _ => none
  | .rorZp zp => some (eaZp zp).addr
  | .rraZp zp => some (eaZp zp).addr
  | .pla | .adcImm _ | .rorAcc | .arrImm _ | .jmpInd _ | .adcAbs _ => none
  | .rorAbs a => some (eaAbs a).addr
  | .rraAbs a => some (eaAbs a).addr
  | .bvs _ | .adcIzy _ => none
  | .rraIzy zp => some (eaIzy zp s).addr
  | .adcZpx _ => none
  | .rorZpx zp => some (eaZpx zp s).addr
  | .rraZpx zp => some (eaZpx zp s).addr
  | .sei | .adcAbsy _ => none
  | .rraAbsy a => some (eaAbsy a s).addr
  | .adcAbsx _ => none
  | .rorAbsx a => some (eaAbsx a s).addr
  | .rraAbsx a => some (eaAbsx a s).addr
  | .nopImm _ _ => none
  | .staIzx zp => some (eaIzx zp s).addr
  | .saxIzx zp => some (eaIzx zp s).addr
  | .styZp zp => some (eaZp zp).addr
  | .staZp zp => some (eaZp zp).addr
  | .stxZp zp => some (eaZp zp).addr
  | .saxZp zp => some (eaZp zp).addr
  | .dey | .txa | .aneImm _ => none
  | .styAbs a => some (eaAbs a).addr
  | .staAbs a => some (eaAbs a).addr
  | .stxAbs a => some (eaAbs a).addr
  | .saxAbs a => some (eaAbs a).addr
  | .bcc _ => none
  | .staIzy zp => some (eaIzy zp s).addr
  | .shaIzy _ => none
  | .styZpx zp => some (eaZpx zp s).addr
  | .staZpx zp => some (eaZpx zp s).addr
  | .stxZpy zp => some (eaZpy zp s).addr
  | .saxZpy zp => some (eaZpy zp s).addr
  | .tya => none
  | .staAbsy a => some (eaAbsy a s).addr
  | .txs | .tasAbsy _ | .shyAbsx _ => none
  | .staAbsx a => some (eaAbsx a s).addr
  | .shxAbsy _ | .shaAbsy _ | .ldyImm _ | .ldaIzx _ | .ldxImm _ | .laxIzx _ | .ldyZp _ | .ldaZp _
  | .ldxZp _ | .laxZp _ | .tay | .ldaImm _ | .tax | .lxaImm _ | .ldyAbs _ | .ldaAbs _ | .ldxAbs _
  | .laxAbs _ | .bcs _ | .ldaIzy _ | .laxIzy _ | .ldyZpx _ | .ldaZpx _ | .ldxZpy _ | .laxZpy _ | .clv
  | .ldaAbsy _ | .tsx | .lasAbsy _ | .ldyAbsx _ | .ldaAbsx _ | .ldxAbsy _ | .laxAbsy _ | .cpyImm _
  | .cmpIzx _ => none
  | .dcpIzx zp => some (eaIzx zp s).addr
  | .cpyZp _ | .cmpZp _ => none
  | .decZp zp => some (eaZp zp).addr
  | .dcpZp zp => some (eaZp zp).addr
  | .iny | .cmpImm _ | .dex | .sbxImm _ | .cpyAbs _ | .cmpAbs _ => none
  | .decAbs a => some (eaAbs a).addr
  | .dcpAbs a => some (eaAbs a).addr
  | .bne _ | .cmpIzy _ => none
  | .dcpIzy zp => some (eaIzy zp s).addr
  | .cmpZpx _ => none
  | .decZpx zp => some (eaZpx zp s).addr
  | .dcpZpx zp => some (eaZpx zp s).addr
  | .cld | .cmpAbsy _ => none
  | .dcpAbsy a => some (eaAbsy a s).addr
  | .cmpAbsx _ => none
  | .decAbsx a => some (eaAbsx a s).addr
  | .dcpAbsx a => some (eaAbsx a s).addr
  | .cpxImm _ | .sbcIzx _ => none
  | .iscIzx zp => some (eaIzx zp s).addr
  | .cpxZp _ | .sbcZp _ => none
  | .incZp zp => some (eaZp zp).addr
  | .iscZp zp => some (eaZp zp).addr
  | .inx | .sbcImm _ | .nop | .usbcImm _ | .cpxAbs _ | .sbcAbs _ => none
  | .incAbs a => some (eaAbs a).addr
  | .iscAbs a => some (eaAbs a).addr
  | .beq _ | .sbcIzy _ => none
  | .iscIzy zp => some (eaIzy zp s).addr
  | .sbcZpx _ => none
  | .incZpx zp => some (eaZpx zp s).addr
  | .iscZpx zp => some (eaZpx zp s).addr
  | .sed | .sbcAbsy _ => none
  | .iscAbsy a => some (eaAbsy a s).addr
  | .sbcAbsx _ => none
  | .incAbsx a => some (eaAbsx a s).addr
  | .iscAbsx a => some (eaAbsx a s).addr

/-- The addresses an instruction's operation reads, apart from the stack and the pointers in page 0, which are never in the
I/O window (R93); BRK reads its vector, which is above the I/O window by default (R99). -/
def readAddresses (i : Instr) (s : State) : List Addr :=
  match i with
  | .brk => [s.params.vecIrq, s.params.vecIrq + 1]
  | .oraIzx zp => [(eaIzx zp s).addr]
  | .jam _ => []
  | .sloIzx zp => [(eaIzx zp s).addr]
  | .nopZp _ _ => []
  | .oraZp zp => [(eaZp zp).addr]
  | .aslZp zp => [(eaZp zp).addr]
  | .sloZp zp => [(eaZp zp).addr]
  | .php | .oraImm _ | .aslAcc | .ancImm _ _ | .nopAbs _ => []
  | .oraAbs a => [(eaAbs a).addr]
  | .aslAbs a => [(eaAbs a).addr]
  | .sloAbs a => [(eaAbs a).addr]
  | .bpl _ => []
  | .oraIzy zp => [(eaIzy zp s).addr]
  | .sloIzy zp => [(eaIzy zp s).addr]
  | .nopZpx _ _ => []
  | .oraZpx zp => [(eaZpx zp s).addr]
  | .aslZpx zp => [(eaZpx zp s).addr]
  | .sloZpx zp => [(eaZpx zp s).addr]
  | .clc => []
  | .oraAbsy a => [(eaAbsy a s).addr]
  | .nopImp _ => []
  | .sloAbsy a => [(eaAbsy a s).addr]
  | .nopAbsx _ _ => []
  | .oraAbsx a => [(eaAbsx a s).addr]
  | .aslAbsx a => [(eaAbsx a s).addr]
  | .sloAbsx a => [(eaAbsx a s).addr]
  | .jsrAbs _ => []
  | .andIzx zp => [(eaIzx zp s).addr]
  | .rlaIzx zp => [(eaIzx zp s).addr]
  | .bitZp zp => [(eaZp zp).addr]
  | .andZp zp => [(eaZp zp).addr]
  | .rolZp zp => [(eaZp zp).addr]
  | .rlaZp zp => [(eaZp zp).addr]
  | .plp | .andImm _ | .rolAcc => []
  | .bitAbs a => [(eaAbs a).addr]
  | .andAbs a => [(eaAbs a).addr]
  | .rolAbs a => [(eaAbs a).addr]
  | .rlaAbs a => [(eaAbs a).addr]
  | .bmi _ => []
  | .andIzy zp => [(eaIzy zp s).addr]
  | .rlaIzy zp => [(eaIzy zp s).addr]
  | .andZpx zp => [(eaZpx zp s).addr]
  | .rolZpx zp => [(eaZpx zp s).addr]
  | .rlaZpx zp => [(eaZpx zp s).addr]
  | .sec => []
  | .andAbsy a => [(eaAbsy a s).addr]
  | .rlaAbsy a => [(eaAbsy a s).addr]
  | .andAbsx a => [(eaAbsx a s).addr]
  | .rolAbsx a => [(eaAbsx a s).addr]
  | .rlaAbsx a => [(eaAbsx a s).addr]
  | .rti => []
  | .eorIzx zp => [(eaIzx zp s).addr]
  | .sreIzx zp => [(eaIzx zp s).addr]
  | .eorZp zp => [(eaZp zp).addr]
  | .lsrZp zp => [(eaZp zp).addr]
  | .sreZp zp => [(eaZp zp).addr]
  | .pha | .eorImm _ | .lsrAcc | .alrImm _ | .jmpAbs _ => []
  | .eorAbs a => [(eaAbs a).addr]
  | .lsrAbs a => [(eaAbs a).addr]
  | .sreAbs a => [(eaAbs a).addr]
  | .bvc _ => []
  | .eorIzy zp => [(eaIzy zp s).addr]
  | .sreIzy zp => [(eaIzy zp s).addr]
  | .eorZpx zp => [(eaZpx zp s).addr]
  | .lsrZpx zp => [(eaZpx zp s).addr]
  | .sreZpx zp => [(eaZpx zp s).addr]
  | .cli => []
  | .eorAbsy a => [(eaAbsy a s).addr]
  | .sreAbsy a => [(eaAbsy a s).addr]
  | .eorAbsx a => [(eaAbsx a s).addr]
  | .lsrAbsx a => [(eaAbsx a s).addr]
  | .sreAbsx a => [(eaAbsx a s).addr]
  | .rts => []
  | .adcIzx zp => [(eaIzx zp s).addr]
  | .rraIzx zp => [(eaIzx zp s).addr]
  | .adcZp zp => [(eaZp zp).addr]
  | .rorZp zp => [(eaZp zp).addr]
  | .rraZp zp => [(eaZp zp).addr]
  | .pla | .adcImm _ | .rorAcc | .arrImm _ => []
  | .jmpInd a => [a, pointerHigh a]
  | .adcAbs a => [(eaAbs a).addr]
  | .rorAbs a => [(eaAbs a).addr]
  | .rraAbs a => [(eaAbs a).addr]
  | .bvs _ => []
  | .adcIzy zp => [(eaIzy zp s).addr]
  | .rraIzy zp => [(eaIzy zp s).addr]
  | .adcZpx zp => [(eaZpx zp s).addr]
  | .rorZpx zp => [(eaZpx zp s).addr]
  | .rraZpx zp => [(eaZpx zp s).addr]
  | .sei => []
  | .adcAbsy a => [(eaAbsy a s).addr]
  | .rraAbsy a => [(eaAbsy a s).addr]
  | .adcAbsx a => [(eaAbsx a s).addr]
  | .rorAbsx a => [(eaAbsx a s).addr]
  | .rraAbsx a => [(eaAbsx a s).addr]
  | .nopImm _ _ | .staIzx _ | .saxIzx _ | .styZp _ | .staZp _ | .stxZp _ | .saxZp _ | .dey | .txa
  | .aneImm _ | .styAbs _ | .staAbs _ | .stxAbs _ | .saxAbs _ | .bcc _ | .staIzy _ | .shaIzy _
  | .styZpx _ | .staZpx _ | .stxZpy _ | .saxZpy _ | .tya | .staAbsy _ | .txs | .tasAbsy _ | .shyAbsx _
  | .staAbsx _ | .shxAbsy _ | .shaAbsy _ | .ldyImm _ => []
  | .ldaIzx zp => [(eaIzx zp s).addr]
  | .ldxImm _ => []
  | .laxIzx zp => [(eaIzx zp s).addr]
  | .ldyZp zp => [(eaZp zp).addr]
  | .ldaZp zp => [(eaZp zp).addr]
  | .ldxZp zp => [(eaZp zp).addr]
  | .laxZp zp => [(eaZp zp).addr]
  | .tay | .ldaImm _ | .tax | .lxaImm _ => []
  | .ldyAbs a => [(eaAbs a).addr]
  | .ldaAbs a => [(eaAbs a).addr]
  | .ldxAbs a => [(eaAbs a).addr]
  | .laxAbs a => [(eaAbs a).addr]
  | .bcs _ => []
  | .ldaIzy zp => [(eaIzy zp s).addr]
  | .laxIzy zp => [(eaIzy zp s).addr]
  | .ldyZpx zp => [(eaZpx zp s).addr]
  | .ldaZpx zp => [(eaZpx zp s).addr]
  | .ldxZpy zp => [(eaZpy zp s).addr]
  | .laxZpy zp => [(eaZpy zp s).addr]
  | .clv => []
  | .ldaAbsy a => [(eaAbsy a s).addr]
  | .tsx | .lasAbsy _ => []
  | .ldyAbsx a => [(eaAbsx a s).addr]
  | .ldaAbsx a => [(eaAbsx a s).addr]
  | .ldxAbsy a => [(eaAbsy a s).addr]
  | .laxAbsy a => [(eaAbsy a s).addr]
  | .cpyImm _ => []
  | .cmpIzx zp => [(eaIzx zp s).addr]
  | .dcpIzx zp => [(eaIzx zp s).addr]
  | .cpyZp zp => [(eaZp zp).addr]
  | .cmpZp zp => [(eaZp zp).addr]
  | .decZp zp => [(eaZp zp).addr]
  | .dcpZp zp => [(eaZp zp).addr]
  | .iny | .cmpImm _ | .dex | .sbxImm _ => []
  | .cpyAbs a => [(eaAbs a).addr]
  | .cmpAbs a => [(eaAbs a).addr]
  | .decAbs a => [(eaAbs a).addr]
  | .dcpAbs a => [(eaAbs a).addr]
  | .bne _ => []
  | .cmpIzy zp => [(eaIzy zp s).addr]
  | .dcpIzy zp => [(eaIzy zp s).addr]
  | .cmpZpx zp => [(eaZpx zp s).addr]
  | .decZpx zp => [(eaZpx zp s).addr]
  | .dcpZpx zp => [(eaZpx zp s).addr]
  | .cld => []
  | .cmpAbsy a => [(eaAbsy a s).addr]
  | .dcpAbsy a => [(eaAbsy a s).addr]
  | .cmpAbsx a => [(eaAbsx a s).addr]
  | .decAbsx a => [(eaAbsx a s).addr]
  | .dcpAbsx a => [(eaAbsx a s).addr]
  | .cpxImm _ => []
  | .sbcIzx zp => [(eaIzx zp s).addr]
  | .iscIzx zp => [(eaIzx zp s).addr]
  | .cpxZp zp => [(eaZp zp).addr]
  | .sbcZp zp => [(eaZp zp).addr]
  | .incZp zp => [(eaZp zp).addr]
  | .iscZp zp => [(eaZp zp).addr]
  | .inx | .sbcImm _ | .nop | .usbcImm _ => []
  | .cpxAbs a => [(eaAbs a).addr]
  | .sbcAbs a => [(eaAbs a).addr]
  | .incAbs a => [(eaAbs a).addr]
  | .iscAbs a => [(eaAbs a).addr]
  | .beq _ => []
  | .sbcIzy zp => [(eaIzy zp s).addr]
  | .iscIzy zp => [(eaIzy zp s).addr]
  | .sbcZpx zp => [(eaZpx zp s).addr]
  | .incZpx zp => [(eaZpx zp s).addr]
  | .iscZpx zp => [(eaZpx zp s).addr]
  | .sed => []
  | .sbcAbsy a => [(eaAbsy a s).addr]
  | .iscAbsy a => [(eaAbsy a s).addr]
  | .sbcAbsx a => [(eaAbsx a s).addr]
  | .incAbsx a => [(eaAbsx a s).addr]
  | .iscAbsx a => [(eaAbsx a s).addr]

/-! ## How statements say what an instruction does -/

/-- The instruction `i` has the opcode `op`, and run in `s` it completes with the state `t`. -/
def Does (i : Instr) (op : Byte) (s t : State) : Prop := opcodeOf i = op ∧ exec i s = .next t

/-- The flags after `SetZN(v)` (R14). -/
def zn (v : Byte) (f : Flags) : Flags := { f with z := decide (v = 0), n := v.getLsbD 7 }

/-- One cycle if indexing crossed a page (R150). -/
def penalty (e : Ea) : Nat := if e.crossed then 1 else 0

/-- The instruction makes one MemRead at `e` and does `f` with the byte read, in `cost` cycles (R93, R200). -/
def Reads (i : Instr) (op : Byte) (e : Ea) (cost : Nat) (f : Byte → State → State) (s : State) : Prop :=
  Does i op s { f (memRead e.addr s).1 (memRead e.addr s).2 with cycles := s.cycles + cost }

/-- The instruction makes one MemWrite of `v` at `e`, in `cost` cycles (R93, R200). -/
def Writes (i : Instr) (op : Byte) (e : Ea) (cost : Nat) (v : Byte) (s : State) : Prop :=
  Does i op s { memWrite e.addr v s with cycles := s.cycles + cost }

/-- The instruction makes one MemRead at `e` and one MemWrite there, in `cost` cycles: `r` gives the new value from the old
value and the incoming carry, and `g` changes the state after the write, given the old and the new value (R93). -/
def Modifies (i : Instr) (op : Byte) (e : Ea) (cost : Nat) (r : Byte → Bool → Byte) (g : Byte → Byte → State → State)
    (s : State) : Prop :=
  let old := (memRead e.addr s).1
  let new := r old s.flags.c
  Does i op s { g old new (memWrite e.addr new (memRead e.addr s).2) with cycles := s.cycles + cost }

/-- A reading instruction in the eight modes of ADC (R254), with the costs of R620. -/
def ReadsInEightModes (imm zp zpx : Byte → Instr) (abs absx absy : Addr → Instr) (izx izy : Byte → Instr)
    (oImm oZp oZpx oAbs oAbsx oAbsy oIzx oIzy : Byte) (f : Byte → State → State) (s : State) (b : Byte) (a : Addr) : Prop :=
  Does (imm b) oImm s { f b s with cycles := s.cycles + 2 } ∧
  Reads (zp b) oZp (eaZp b) 3 f s ∧
  Reads (zpx b) oZpx (eaZpx b s) 4 f s ∧
  Reads (abs a) oAbs (eaAbs a) 4 f s ∧
  Reads (absx a) oAbsx (eaAbsx a s) (4 + penalty (eaAbsx a s)) f s ∧
  Reads (absy a) oAbsy (eaAbsy a s) (4 + penalty (eaAbsy a s)) f s ∧
  Reads (izx b) oIzx (eaIzx b s) 6 f s ∧
  Reads (izy b) oIzy (eaIzy b s) (5 + penalty (eaIzy b s)) f s

/-- A read-modify-write instruction in the four memory modes of ASL (R271), with the costs of R620. -/
def ModifiesInFourModes (zp zpx : Byte → Instr) (abs absx : Addr → Instr) (oZp oZpx oAbs oAbsx : Byte)
    (r : Byte → Bool → Byte) (g : Byte → Byte → State → State) (s : State) (b : Byte) (a : Addr) : Prop :=
  Modifies (zp b) oZp (eaZp b) 5 r g s ∧
  Modifies (zpx b) oZpx (eaZpx b s) 6 r g s ∧
  Modifies (abs a) oAbs (eaAbs a) 6 r g s ∧
  Modifies (absx a) oAbsx (eaAbsx a s) 7 r g s

/-- ILLEGAL_SET holds the opcode (R352). -/
def InSet (s : State) (op : Byte) : Prop := s.params.illegalSet.contains op = true

/-- A read-modify-write instruction in the seven modes of SLO (R353), with the costs of R620, each where ILLEGAL_SET holds
its opcode. -/
def ModifiesInSevenModes (zp zpx : Byte → Instr) (abs absx absy : Addr → Instr) (izx izy : Byte → Instr)
    (oZp oZpx oAbs oAbsx oAbsy oIzx oIzy : Byte) (r : Byte → Bool → Byte) (g : Byte → Byte → State → State) (s : State)
    (b : Byte) (a : Addr) : Prop :=
  (InSet s oZp → Modifies (zp b) oZp (eaZp b) 5 r g s) ∧
  (InSet s oZpx → Modifies (zpx b) oZpx (eaZpx b s) 6 r g s) ∧
  (InSet s oAbs → Modifies (abs a) oAbs (eaAbs a) 6 r g s) ∧
  (InSet s oAbsx → Modifies (absx a) oAbsx (eaAbsx a s) 7 r g s) ∧
  (InSet s oAbsy → Modifies (absy a) oAbsy (eaAbsy a s) 7 r g s) ∧
  (InSet s oIzx → Modifies (izx b) oIzx (eaIzx b s) 8 r g s) ∧
  (InSet s oIzy → Modifies (izy b) oIzy (eaIzy b s) 8 r g s)

/-- A branch instruction: its opcode, and its condition on the flags (R300). -/
def Branches (i : Int → Instr) (op : Byte) (cond : Flags → Bool) (s : State) (off : Int) : Prop :=
  let target : Addr := BitVec.ofInt 16 ((s.pc.toNat : Int) + off)
  (cond s.flags = false → Does (i off) op s { s with cycles := s.cycles + 2 }) ∧
  (cond s.flags = true →
    Does (i off) op s
      { s with pc := target, cycles := s.cycles + if s.pc.toNat / 256 = target.toNat / 256 then 3 else 4 })

/-! ## When a step runs the instruction at the PC (R400, R412, R456) -/

/-- Outside a frame: no action of the host to come, no frame asked for, no reset, no NMI, no IRQ that is accepted, a RUNNING
CPU, and a PC outside the trap window. -/
def ReadyOutsideFrame (s : State) : Prop :=
  s.hostActions = [] ∧ s.phase = .idle ∧ s.frameRequests = 0 ∧ s.resetPending = false ∧ s.mode = .running ∧
  s.nmiPending = false ∧ (s.irqPending = false ∨ s.flags.i = true) ∧ inTrapWindow s.params s.pc = false

/-- Inside a line: the same, with cycles left in the line, and the IRQ line driven by the two latches (R456). -/
def ReadyInLine (s : State) : Prop :=
  s.hostActions = [] ∧ s.phase = .cpuLoop ∧ s.cycles < s.lineTarget ∧ s.resetPending = false ∧ s.mode = .running ∧
  s.nmiPending = false ∧ ((s.rasterLatched = false ∧ s.timerLatched = false) ∨ s.flags.i = true) ∧
  inTrapWindow s.params s.pc = false

/-! ## The default filter coefficients (R574), over the reals -/

/-- `(f, q)` is the default of FILTER_COEFF for a sample rate, a cutoff `fc` and a resonance `res` (R574). -/
def IsDefaultCoeff (rate fc res : ℕ) (f q : ℝ) : Prop :=
  f = 2 * Real.sin (Real.pi * min (30 * (400 : ℝ) ^ ((fc : ℝ) / 2047)) ((rate : ℝ) / 6) / rate) ∧
  q = Real.sqrt 2 - res * (Real.sqrt 2 - 0.1) / 15

end Sys2Proof.Safety
end

