-- ==== Sys2Proof/Certificates/Slice0/Obligations.lean ====
section
/-!
DEFINITION. Certificates/Slice0/Obligations.lean: the statements about the model, each from the rules its docstring cites.
exec is given the state after the whole instruction was fetched, so "the PC" in a statement about exec is the address of the
next instruction, as the spec's Operations have it (R16, R42).
-/

section

open Sys2Proof Sys2Proof.Machine Sys2Proof.Safety

/-! ## Encoding -/

/-- Decoding the encoding of a well-formed instruction gives the instruction back, whatever bytes follow (R130, R131, R148,
R151). -/
def Obligations.DecodeOfEncode : Prop :=
  ∀ (i : Instr) (rest : List Byte), WellFormed i → decode (encode i ++ rest) = .ok (i, rest)

/-- What decodes is well formed and is the encoding of what it decodes to: each byte string has one meaning (R151, R152). -/
def Obligations.EncodeOfDecode : Prop :=
  ∀ (bytes rest : List Byte) (i : Instr), decode bytes = .ok (i, rest) → bytes = encode i ++ rest ∧ WellFormed i

/-- An instruction is 1, 2 or 3 bytes long by its opcode alone; every opcode decodes when its operand bytes are there, and
is refused by name when they are not (R130, R152). -/
def Obligations.LengthByOpcode : Prop :=
  ∀ (op : Byte) (rest : List Byte),
    (opcodeLength op = 1 ∨ opcodeLength op = 2 ∨ opcodeLength op = 3) ∧
    (opcodeLength op ≤ rest.length + 1 →
      ∃ i, decode (op :: rest) = .ok (i, rest.drop (opcodeLength op - 1)) ∧ opcodeOf i = op) ∧
    (rest.length + 1 < opcodeLength op → decode (op :: rest) = .error (.missingOperand op))

/-- Words written out from the formats of R131 and the map of R151, one of each format and more. -/
def Obligations.WordsOfTheOpcodeMap : Prop :=
  decode [0x00] = .ok (.brk, []) ∧ decode [0x0A] = .ok (.aslAcc, []) ∧ decode [0xA9, 0x80] = .ok (.ldaImm 0x80, []) ∧
  decode [0x84, 0xFB] = .ok (.styZp 0xFB, []) ∧ decode [0xF6, 0x10] = .ok (.incZpx 0x10, []) ∧
  decode [0x96, 0xFF] = .ok (.stxZpy 0xFF, []) ∧ decode [0x61, 0x20] = .ok (.adcIzx 0x20, []) ∧
  decode [0xD1, 0x20] = .ok (.cmpIzy 0x20, []) ∧ decode [0xF0, 0x80] = .ok (.beq (-128), []) ∧
  decode [0x10, 0x7F] = .ok (.bpl 127, []) ∧ decode [0x20, 0x34, 0x12] = .ok (.jsrAbs 0x1234, []) ∧
  decode [0x9D, 0xFF, 0x12] = .ok (.staAbsx 0x12FF, []) ∧ decode [0xBE, 0xFF, 0x12] = .ok (.ldxAbsy 0x12FF, []) ∧
  decode [0x6C, 0xFF, 0x12] = .ok (.jmpInd 0x12FF, []) ∧ decode [0x48] = .ok (.pha, []) ∧
  decode [0x02] = .ok (.jam 0x02, []) ∧ decode [0xE7, 0x10] = .ok (.iscZp 0x10, []) ∧
  decode [0xEB, 0xB0] = .ok (.usbcImm 0xB0, []) ∧ decode [0x1C, 0xFF, 0x12] = .ok (.nopAbsx 0x1C 0x12FF, []) ∧
  decode [0x8B, 0x01] = .ok (.aneImm 0x01, [])

/-! ## The bus -/

/-- An address is routed to the I/O shadow exactly when the control byte's low two bits are not zero and it lies in the I/O
window (R82). -/
def Obligations.RoutingToShadow : Prop :=
  ∀ (a : Addr) (s : State),
    isIO a s = true ↔
      (s.ram.read s.params.bankCtrlAddr.toNat &&& 0x03) ≠ 0 ∧ 0xD000 ≤ a.toNat ∧ a.toNat < 0xE000

/-- A write followed by a read of the address returns the byte written: in RAM always, in the I/O shadow where no read
interception is registered or the registered one declines (R84, R97). MODEL'S CHOICE: the draw counter by which an answer of
the host's own interception is free (log entry 16). -/
def Obligations.ReadAfterWrite : Prop :=
  ∀ (s : State) (a : Addr) (v : Byte), MemoryInv s →
    (isIO a s = false → (memRead a (memWrite a v s)).1 = v) ∧
    (isIO a s = true →
      (s.params.readCallback = .absent → (memRead a (memWrite a v s)).1 = v) ∧
      (s.params.readCallback = .block → a ∉ [0xD011, 0xD012, 0xD019, 0xDC00, 0xDC01, 0xDC0D] →
        (memRead a (memWrite a v s)).1 = v) ∧
      (s.params.readCallback = .host →
        (memRead a (memWrite a v s)).1 = (Config.readCallback (memWrite a v s).draws a).handled.getD v))

/-- A write routed to RAM leaves every other cell of RAM and everything outside RAM as it was; a write routed to the I/O
shadow leaves RAM and every other shadow cell as it was (R85, R86). -/
def Obligations.WriteLeavesOtherCells : Prop :=
  ∀ (s : State) (a : Addr) (v : Byte), MemoryInv s →
    (isIO a s = false →
      (∀ k, k ≠ a.toNat → (memWrite a v s).ram.read k = s.ram.read k) ∧ { memWrite a v s with ram := s.ram } = s) ∧
    (isIO a s = true →
      (memWrite a v s).ram = s.ram ∧
      ∀ k, k ≠ a.toNat - 0xD000 → (memWrite a v s).shadow.read k = s.shadow.read k)

/-- `MemRead`: RAM outside the I/O window; inside it the stored shadow byte where no read interception is registered or the
registered one declines, else its answer; the block's own handles six addresses (R84, R88, R468). MODEL'S CHOICE: that a
read of $DC00 and of $DC01 takes its free bytes from the draw counter State.draws, one number for the keyboard and joystick
port 1, and advances it by one (log entry 7), and that an interception of the host's own does so and may ask for a reset (log
entry 16). -/
def Obligations.ReadInterceptions : Prop :=
  ∀ (a : Addr) (s : State),
    let stored := s.shadow.read (a.toNat - 0xD000)
    (isIO a s = false → memRead a s = (s.ram.read a.toNat, s)) ∧
    (isIO a s = true → s.params.readCallback = .absent → memRead a s = (stored, s)) ∧
    (isIO a s = true → s.params.readCallback = .block →
      (a = 0xD011 →
        memRead a s = ((s.shadow.read 0x011 &&& 0x7F) ||| BitVec.ofNat 8 (((s.line >>> 8) &&& 1) <<< 7), s)) ∧
      (a = 0xD012 → memRead a s = (BitVec.ofNat 8 (s.line &&& 0xFF), s)) ∧
      (a = 0xD019 → memRead a s = (0x70 ||| (if s.rasterLatched then 0x81 else 0x00), s)) ∧
      (a = 0xDC00 → memRead a s = (Config.inputJoy2 s.draws, { s with draws := s.draws + 1 })) ∧
      (a = 0xDC01 →
        memRead a s =
          (Config.inputKeys s.draws (s.shadow.read 0xC00) &&& Config.inputJoy1 s.draws,
            { s with draws := s.draws + 1 })) ∧
      (a = 0xDC0D → memRead a s = ((if s.timerLatched then 0x81 else 0x00), { s with timerLatched := false })) ∧
      (a ∉ [0xD011, 0xD012, 0xD019, 0xDC00, 0xDC01, 0xDC0D] → memRead a s = (stored, s))) ∧
    (isIO a s = true → s.params.readCallback = .host →
      let reply := Config.readCallback s.draws a
      memRead a s =
        (reply.handled.getD stored,
          { s with draws := s.draws + 1, resetPending := s.resetPending || reply.reset }))

/-- `MemWrite`: a byte of RAM outside the I/O window; inside it the effect of the registered write interception, if one is
registered, computed before the store, and the stored shadow byte (R86, R107). MODEL'S CHOICE: what an interception of the
host's own does to the block, a draw and perhaps a reset request (log entry 16). -/
def Obligations.WriteInterceptions : Prop :=
  ∀ (a : Addr) (v : Byte) (s : State),
    let stored := s.shadow.write (a.toNat - 0xD000) v
    let latchHigh : BitVec 16 := (s.timerLatch &&& 0x00FF) ||| (v.setWidth 16 <<< 8)
    (isIO a s = false → memWrite a v s = { s with ram := s.ram.write a.toNat v }) ∧
    (isIO a s = true → s.params.writeCallback = .absent → memWrite a v s = { s with shadow := stored }) ∧
    (isIO a s = true → s.params.writeCallback = .block →
      (a = 0xD019 → memWrite a v s = { s with shadow := stored, rasterLatched := false }) ∧
      (a = 0xDC04 →
        memWrite a v s = { s with shadow := stored, timerLatch := (s.timerLatch &&& 0xFF00) ||| v.setWidth 16 }) ∧
      (a = 0xDC05 →
        memWrite a v s =
          { s with
            shadow := stored
            timerLatch := latchHigh
            timerCounter := if (s.shadow.read 0xC0E).getLsbD 0 = false then (latchHigh.toNat : Int) else s.timerCounter }) ∧
      (a = 0xDC0D →
        memWrite a v s =
          { s with
            shadow := stored
            icrMask := if v.getLsbD 7 then s.icrMask ||| v.setWidth 5 else s.icrMask &&& ~~~(v.setWidth 5) }) ∧
      (a = 0xDC0E →
        memWrite a v s =
          { s with
            shadow := stored
            timerCounter := if v.getLsbD 4 then (s.timerLatch.toNat : Int) else s.timerCounter }) ∧
      (0xD400 ≤ a.toNat → a.toNat ≤ 0xD41F →
        memWrite a v s =
          { s with shadow := stored, audio := flushAudio s.params s.shadow s.cycles false s.audio }) ∧
      (a ∉ [0xD019, 0xDC04, 0xDC05, 0xDC0D, 0xDC0E] → ¬ (0xD400 ≤ a.toNat ∧ a.toNat ≤ 0xD41F) →
        memWrite a v s = { s with shadow := stored })) ∧
    (isIO a s = true → s.params.writeCallback = .host →
      memWrite a v s =
        { s with
          shadow := stored
          draws := s.draws + 1
          resetPending := s.resetPending || Config.writeCallback s.draws a v })

/-- The interrupt flags: what a read of $D019 and of $DC0D returns, and the only ways each flag is cleared: a write to
$D019, a read of $DC0D; neither a reset, nor an interrupt entry, nor a trap's callback, nor a part of the frame loop clears
one (R464, R466). MODEL'S CHOICE: that the clearing access is the block's own interception, so that an interception of the
host's own clears neither flag (log entry 16), and that a trap's callback clears neither (log entry 5). -/
def Obligations.LatchesCleared : Prop :=
  (∀ (v : Byte) (s : State), isIO 0xD019 s = true → s.params.writeCallback = .block →
    (memWrite 0xD019 v s).rasterLatched = false) ∧
  (∀ s : State, isIO 0xD019 s = true → s.params.readCallback = .block →
    memRead 0xD019 s = (0x70 ||| (if s.rasterLatched then 0x81 else 0x00), s)) ∧
  (∀ (i : Instr) (s t : State), exec i s = .next t → s.rasterLatched = true → t.rasterLatched = false →
    storeAddress i s = some 0xD019 ∧ isIO 0xD019 s = true ∧ s.params.writeCallback = .block) ∧
  (∀ s : State, isIO 0xDC0D s = true → s.params.readCallback = .block →
    memRead 0xDC0D s = ((if s.timerLatched then 0x81 else 0x00), { s with timerLatched := false })) ∧
  (∀ (i : Instr) (s t : State), MemoryInv s → exec i s = .next t → s.timerLatched = true → t.timerLatched = false →
    0xDC0D ∈ readAddresses i s ∧ isIO 0xDC0D s = true ∧ s.params.readCallback = .block) ∧
  (∀ (a : Addr) (v : Byte) (s : State), (memWrite a v s).timerLatched = s.timerLatched) ∧
  (∀ (s : State) (a : Addr) (n : Nat) (vec : Addr) (ev : Addr → Byte → Event),
    MemoryInv s → InRam s.params.vecReset s → InRam vec s →
    ∀ t ∈ [doReset s, enterInterrupt vec ev s, callTrap a s, jammedIdle s, beginFrame s, beginLine n s, endLine s, endFrame s],
      (s.rasterLatched = true → t.rasterLatched = true) ∧ (s.timerLatched = true → t.timerLatched = true))

/-- A push writes `0x0100 | S` and then decrements S modulo 256, a pull increments S modulo 256 and then reads
`0x0100 | S`; a 16-bit read takes its low byte first, from the lower address (R90, R98). -/
def Obligations.StackAndWordAccess : Prop :=
  (∀ (v : Byte) (s : State),
    push v s = { memWrite (0x0100 ||| s.sp.setWidth 16) v s with sp := BitVec.ofNat 8 (s.sp.toNat + 255) }) ∧
  (∀ s : State,
    let sp : Byte := BitVec.ofNat 8 (s.sp.toNat + 1)
    pull s = memRead (0x0100 ||| sp.setWidth 16) { s with sp := sp }) ∧
  (∀ (a : Addr) (s : State),
    let lo := memRead a s
    let hi := memRead (BitVec.ofNat 16 (a.toNat + 1)) lo.2
    memRead16 a s = (lo.1.setWidth 16 ||| (hi.1.setWidth 16 <<< 8), hi.2))

/-- The effective addresses and the page crossings of the modes, and the targets of JMP (abs) and of a branch (R141 to
R148). -/
def Obligations.EffectiveAddresses : Prop :=
  ∀ (zp : Byte) (a : Addr) (s : State) (off : Int),
    let cell (k : Nat) : Nat := (memRead (BitVec.ofNat 16 k) s).1.toNat
    let p := (zp.toNat + s.x.toNat) % 256
    let ptr := cell zp.toNat + 256 * cell ((zp.toNat + 1) % 256)
    ((eaZp zp).addr.toNat = zp.toNat ∧ (eaZp zp).crossed = false) ∧
    ((eaZpx zp s).addr.toNat = p ∧ (eaZpx zp s).crossed = false) ∧
    ((eaZpy zp s).addr.toNat = (zp.toNat + s.y.toNat) % 256 ∧ (eaZpy zp s).crossed = false) ∧
    ((eaAbs a).addr = a ∧ (eaAbs a).crossed = false) ∧
    ((eaIzx zp s).addr.toNat = cell p + 256 * cell ((p + 1) % 256) ∧ (eaIzx zp s).crossed = false) ∧
    ((eaIzy zp s).addr.toNat = (ptr + s.y.toNat) % 65536 ∧
      ((eaIzy zp s).crossed = true ↔ ptr / 256 ≠ (eaIzy zp s).addr.toNat / 256)) ∧
    ((eaAbsx a s).addr.toNat = (a.toNat + s.x.toNat) % 65536 ∧
      ((eaAbsx a s).crossed = true ↔ a.toNat / 256 ≠ (eaAbsx a s).addr.toNat / 256)) ∧
    ((eaAbsy a s).addr.toNat = (a.toNat + s.y.toNat) % 65536 ∧
      ((eaAbsy a s).crossed = true ↔ a.toNat / 256 ≠ (eaAbsy a s).addr.toNat / 256)) ∧
    (let lo := memRead a s
     let hi := memRead ((a &&& 0xFF00) ||| ((a + 1) &&& 0x00FF)) lo.2
     (jumpIndirect a s).1.toNat = lo.1.toNat + 256 * hi.1.toNat ∧ (jumpIndirect a s).2 = hi.2) ∧
    ((offsetOfByte zp = if 128 ≤ zp.toNat then (zp.toNat : Int) - 256 else zp.toNat) ∧
      ((branchTarget a off).toNat : Int) = (a.toNat + off) % 65536 ∧
      (pagesDiffer a (branchTarget a off) = true ↔ a.toNat / 256 ≠ (branchTarget a off).toNat / 256))

/-! ## The status byte and the CPU's step -/

/-- The packed status byte, bit by bit; the flags a byte sets; and the break flag masked off by an interrupt entry (R43,
R44). -/
def Obligations.StatusByte : Prop :=
  (∀ f : Flags,
    (getP f).getLsbD 7 = f.n ∧ (getP f).getLsbD 6 = f.v ∧ (getP f).getLsbD 5 = true ∧ (getP f).getLsbD 4 = true ∧
    (getP f).getLsbD 3 = f.d ∧ (getP f).getLsbD 2 = f.i ∧ (getP f).getLsbD 1 = f.z ∧ (getP f).getLsbD 0 = f.c) ∧
  (∀ (v : Byte) (s : State),
    setP v s =
      { s with
        flags :=
          { c := v.getLsbD 0, z := v.getLsbD 1, i := v.getLsbD 2, d := v.getLsbD 3, v := v.getLsbD 6, n := v.getLsbD 7 } }) ∧
  (∀ (vec : Addr) (ev : Addr → Byte → Event) (s : State),
    enterInterrupt vec ev s = takeInterrupt vec s.pc (getP s.flags &&& 0xEF) ev s.params.intCycles s)

/-- A step in which nothing comes before the instruction reads its bytes with MemRead in address order, as many as its opcode
says, and is exec of the decoded instruction at the state after them; of an undecoded opcode it reads the opcode byte alone
(R14, R104, R130, R370, R400). -/
def Obligations.StepRunsInstruction : Prop :=
  (∀ s : State, fetch s = ((memRead s.pc s).1, { (memRead s.pc s).2 with pc := BitVec.ofNat 16 (s.pc.toNat + 1) })) ∧
  ∀ s : State, ReadyOutsideFrame s ∨ ReadyInLine s →
    let f0 := fetch { s with irqPending := false }
    let f1 := fetch f0.2
    let f2 := fetch f1.2
    (isUndecoded s.params f0.1 = false → ∀ i,
      (decode [f0.1] = .ok (i, []) → step s = exec i f0.2) ∧
      (decode [f0.1, f1.1] = .ok (i, []) → step s = exec i f1.2) ∧
      (decode [f0.1, f1.1, f2.1] = .ok (i, []) → step s = exec i f2.2)) ∧
    (isUndecoded s.params f0.1 = true → step s = exec (decodeBytes f0.1 0 0) f0.2)

/-- The priority of simultaneous events, highest first: reset in any mode, the jammed idle, NMI, IRQ if I = 0, the kernal
trap, the instruction (R412). -/
def Obligations.StepPriority : Prop :=
  ∀ s : State,
    let inWindow : Prop := ∃ w ∈ s.params.trapWindow, w.1 ≤ s.pc ∧ s.pc ≤ w.2
    (s.resetPending = true → cpuStep s = .next (doReset s)) ∧
    (s.resetPending = false → s.mode = .jammed →
      cpuStep s =
        .next { s with nmiPending := false, irqPending := false, cycles := s.cycles + s.params.jamStepCycles }) ∧
    (s.resetPending = false → s.mode = .running →
      (s.nmiPending = true →
        cpuStep s =
          .next (enterInterrupt s.params.vecNmi .nmi { s with nmiPending := false, irqPending := false })) ∧
      (s.nmiPending = false →
        (s.irqPending = true → s.flags.i = false →
          cpuStep s = .next (enterInterrupt s.params.vecIrq .irq { s with irqPending := false })) ∧
        (s.irqPending = false ∨ s.flags.i = true →
          (inWindow → cpuStep s = kernalTrap s.pc { s with irqPending := false }) ∧
          (¬ inWindow → cpuStep s = fetchExecute { s with irqPending := false }))))

/-- `reset()` sets resetPending, and the next step, in any mode, clears the pending requests, sets I, takes the PC from the
reset vector, runs the CPU and costs RESET_CYCLES, 7 by default; with the vector in RAM everything else is unchanged (R402).
The recorded event is R414's. -/
def Obligations.ResetStep : Prop :=
  defaultParams.resetCycles = 7 ∧
  (∀ s : State, applyAction .requestReset s = { s with resetPending := true }) ∧
  ∀ s : State, s.resetPending = true →
    let u : State :=
      { s with
        resetPending := false
        nmiPending := false
        irqPending := false
        flags := { s.flags with i := true } }
    let v := memRead16 s.params.vecReset u
    cpuStep s =
      .next { v.2 with
        pc := v.1
        mode := .running
        cycles := s.cycles + s.params.resetCycles
        events := .reset :: s.events } ∧
    (InRam s.params.vecReset s → v.2 = u)

/-- The step after creation is the reset, and it leaves State.reset; both meet every invariant of the model. State.reset rests
on the model's own values at creation (log entries 1, 2 and 3). -/
def Obligations.ResetMeetsInvariants : Prop :=
  step State.creation = .next State.reset ∧
  ∀ s ∈ [State.creation, State.reset], MemoryInv s ∧ SchedulerInv s ∧ VideoInv s.video ∧ AudioInv s.audio

/-- An interrupt entry, by NMI or IRQ: the PC's high and low byte and the status byte with B = 0 on the stack, S down by 3, I
set, the PC from the vector, INT_CYCLES, 7 by default; with the vector in RAM, as the default vectors always are, nothing
else is changed (R408). The recorded event is R414's. -/
def Obligations.InterruptEntry : Prop :=
  defaultParams.intCycles = 7 ∧
  (∀ (s : State), InRam defaultParams.vecNmi s ∧ InRam defaultParams.vecIrq s) ∧
  ∀ (s : State) (vec : Addr) (ev : Addr → Byte → Event), MemoryInv s →
    let u := push (getP s.flags &&& 0xEF) (push (loByte s.pc) (push (hiByte s.pc) s))
    let t := enterInterrupt vec ev s
    let cleared : State :=
      { t with ram := s.ram, sp := s.sp, flags := s.flags, pc := s.pc, cycles := s.cycles, events := s.events }
    t.ram.read (256 + s.sp.toNat) = hiByte s.pc ∧ t.ram.read (256 + (s.sp - 1).toNat) = loByte s.pc ∧
    t.ram.read (256 + (s.sp - 2).toNat) = getP s.flags &&& 0xEF ∧
    (∀ k, k ≠ 256 + s.sp.toNat → k ≠ 256 + (s.sp - 1).toNat → k ≠ 256 + (s.sp - 2).toNat →
      t.ram.read k = s.ram.read k) ∧
    t.sp = s.sp - 3 ∧ t.flags = { s.flags with i := true } ∧ t.pc = (memRead16 vec u).1 ∧
    t.cycles = s.cycles + s.params.intCycles ∧ t.events = ev s.pc (getP s.flags &&& 0xEF) :: s.events ∧
    { cleared with draws := s.draws, timerLatched := s.timerLatched, resetPending := s.resetPending } = s ∧
    (InRam vec s → cleared = s)

/-- RTI right after an interrupt entry restores the PC, the six flags and S of before it (R411, R312). -/
def Obligations.ReturnUndoesEntry : Prop :=
  ∀ (s : State) (vec : Addr) (ev : Addr → Byte → Event), MemoryInv s →
    ∃ t, exec .rti (enterInterrupt vec ev s) = .next t ∧ t.pc = s.pc ∧ t.flags = s.flags ∧ t.sp = s.sp ∧ t.a = s.a ∧
      t.x = s.x ∧ t.y = s.y ∧ t.cycles = s.cycles + s.params.intCycles + 6

/-- The kernal trap: the window's and the return opcode's default; a step whose PC lies in the window, with nothing of a
higher priority pending, is the trap at that address; the trap calls the callback, if there is one, and then forces
TRAP_RETURN_OPCODE, by default the RTS, in 6 cycles (R418). The recorded event is R414's. MODEL'S CHOICE: what a return
opcode other than 0x60 does, here an opcode of one byte (log entry 20). -/
def Obligations.KernalTrap : Prop :=
  (defaultParams.trapWindow = [(0xFF81, 0xFFF5)] ∧ defaultParams.trapReturnOpcode = 0x60) ∧
  (∀ s : State, s.resetPending = false → s.mode = .running → s.nmiPending = false →
    s.irqPending = false ∨ s.flags.i = true → (∃ w ∈ s.params.trapWindow, w.1 ≤ s.pc ∧ s.pc ≤ w.2) →
    cpuStep s = kernalTrap s.pc { s with irqPending := false }) ∧
  ∀ (a : Addr) (s : State),
    let u := if s.params.trapCallback then applyTrap (Config.trapEffect s.draws (trapView a s)) s else s
    let lo := pull u
    let hi := pull lo.2
    (s.params.trapReturnOpcode = 0x60 →
      kernalTrap a s =
        .next { hi.2 with pc := mkAddr lo.1 hi.1 + 1, cycles := s.cycles + 6, events := .trap a :: s.events }) ∧
    (∀ i, decode [s.params.trapReturnOpcode] = .ok (i, []) →
      kernalTrap a s = exec i { u with pc := s.pc + 1, events := .trap a :: s.events })

/-- A JSR to a routine in the window followed by the trap step, with the default return opcode, returns to the byte after the
JSR with S restored, 12 cycles in all, whether there is no callback or one that leaves S and the return address on the stack
as it found them (R419, R420). -/
def Obligations.TrapReturnsAfterCall : Prop :=
  ∀ (s t : State) (a : Addr), MemoryInv s → exec (.jsrAbs a) s = .next t → s.params.trapReturnOpcode = 0x60 →
    (t.params.trapCallback = true →
      (Config.trapEffect t.draws (trapView a t)).sp = t.sp ∧
      ∀ w ∈ (Config.trapEffect t.draws (trapView a t)).ramWrites,
        w.1.toNat ≠ 256 + (t.sp + 1).toNat ∧ w.1.toNat ≠ 256 + (t.sp + 2).toNat) →
    t.pc = a ∧ ∃ u, kernalTrap a t = .next u ∧ u.pc = s.pc ∧ u.sp = s.sp ∧ u.cycles = s.cycles + 12

/-- A jammed CPU stays jammed until a reset: whatever else the block does in a step, and whatever the host does but ask for a
reset, mode, A, X, Y, S, PC and the flags stay, and the step changes no memory (R416, R417, R619). -/
def Obligations.JammedStays : Prop :=
  ∀ s t : State, s.mode = .jammed → (takeActions s).resetPending = false → step s = .next t →
    t.mode = .jammed ∧ t.a = s.a ∧ t.x = s.x ∧ t.y = s.y ∧ t.sp = s.sp ∧ t.pc = s.pc ∧ t.flags = s.flags ∧
    t.ram = s.ram ∧ t.shadow = s.shadow

/-- Every CPU step adds at least one cycle, where the parameters that are a step's cost are not zero, and at most as many as
the dearest instruction, 8, or the dearest of those parameters; with the default parameters that is one to eight; and it
leaves irqPending clear (R406, R426, R453). -/
def Obligations.CpuStepCosts : Prop :=
  (StepsCost defaultParams ∧ stepBound defaultParams = 8) ∧
  ∀ s t : State, cpuStep s = .next t →
    (StepsCost s.params → s.cycles < t.cycles) ∧ t.cycles ≤ s.cycles + stepBound s.params ∧ t.irqPending = false

/-- No instruction faults: every instruction completes from every state, but for an unstable illegal opcode that the
parameters put into ILLEGAL_SET (R367, R412, R422). -/
def Obligations.EveryInstructionCompletes : Prop :=
  ∀ (i : Instr) (s : State), (opcodeOf i ∈ unstableIllegal → s.params.illegalSet.contains (opcodeOf i) = false) →
    ∃ t, exec i s = .next t

/-- An illegal opcode outside ILLEGAL_SET is a no-operation that consumes UNDECODED_LEN bytes, by default its opcode byte, and
UNDECODED_CYCLES, by default 2, and is recorded; an unstable one inside ILLEGAL_SET is refused, and the default set holds
none (R367, R370). -/
def Obligations.OpcodesOutsideIllegalSet : Prop :=
  (defaultParams.undecodedLen = 1 ∧ defaultParams.undecodedCycles = 2) ∧
  (∀ (i : Instr) (s : State), WellFormed i → isUndecoded s.params (opcodeOf i) = true →
    exec i s =
      .next { s with
        pc := s.pc - 1 + BitVec.ofNat 16 s.params.undecodedLen
        cycles := s.cycles + s.params.undecodedCycles
        events := .undecoded (opcodeOf i) :: s.events }) ∧
  (∀ s : State, ReadyOutsideFrame s ∨ ReadyInLine s →
    let f := fetch { s with irqPending := false }
    isUndecoded s.params f.1 = true →
      step s =
        .next { f.2 with
          pc := BitVec.ofNat 16 (s.pc.toNat + s.params.undecodedLen)
          cycles := s.cycles + s.params.undecodedCycles
          events := .undecoded f.1 :: s.events }) ∧
  (∀ (i : Instr) (s : State), WellFormed i → opcodeOf i ∈ [0x8B, 0xAB, 0x93, 0x9F, 0x9E, 0x9C, 0x9B, 0xBB] →
    (s.params.illegalSet.contains (opcodeOf i) = true → exec i s = .refused (.unstableIllegal (opcodeOf i))) ∧
    defaultParams.illegalSet.contains (opcodeOf i) = false)

/-! ## Frames: what an instruction leaves unchanged -/

/-- A, X, Y, S and the six flags are written only by the rows that R41 and R45 list, and by USBC, which R365 makes identical
to SBC and the tables leave out (R41, R45, R365). -/
def Obligations.RegisterAndFlagWriters : Prop :=
  ∀ (i : Instr) (s t : State), WellFormed i → exec i s = .next t →
    (opcodeOf i ∉ writesARows → t.a = s.a) ∧ (opcodeOf i ∉ writesXRows → t.x = s.x) ∧
    (opcodeOf i ∉ writesYRows → t.y = s.y) ∧ (opcodeOf i ∉ writesSRows → t.sp = s.sp) ∧
    (opcodeOf i ∉ writesCRows → t.flags.c = s.flags.c) ∧ (opcodeOf i ∉ writesIRows → t.flags.i = s.flags.i) ∧
    (opcodeOf i ∉ writesDRows → t.flags.d = s.flags.d) ∧ (opcodeOf i ∉ writesVRows → t.flags.v = s.flags.v) ∧
    (opcodeOf i ∉ writesNZRows → t.flags.n = s.flags.n ∧ t.flags.z = s.flags.z)

/-- What no instruction changes: the pending requests, the scheduler's line and target, the video unit, the configuration and
the loop's position; an interception of the host's own may request a reset, and nothing else does; the mode changes only by a
jam opcode, the event record only by JAM, BRK and an undecoded opcode, the PC only by a control transfer, or by an undecoded
opcode whose UNDECODED_LEN is not 1; the cycle count grows (R42, R47, R48, R95, R111, R602). -/
def Obligations.MachineFrame : Prop :=
  ∀ (i : Instr) (s t : State), WellFormed i → exec i s = .next t →
    (s.resetPending = true → t.resetPending = true) ∧
    (NoHostCallback s.params → t.resetPending = s.resetPending) ∧
    t.nmiPending = s.nmiPending ∧ t.irqPending = s.irqPending ∧ t.line = s.line ∧
    t.lineTarget = s.lineTarget ∧ t.video = s.video ∧ t.phase = s.phase ∧ t.frameRequests = s.frameRequests ∧
    t.hostActions = s.hostActions ∧ t.params = s.params ∧ (StepsCost s.params → s.cycles < t.cycles) ∧
    (opcodeOf i ∉ jamOpcodes → t.mode = s.mode) ∧
    (opcodeOf i ∉ jamOpcodes → opcodeOf i ≠ 0x00 → isUndecoded s.params (opcodeOf i) = false → t.events = s.events) ∧
    (opcodeOf i ∉ controlRows → isUndecoded s.params (opcodeOf i) = false ∨ s.params.undecodedLen = 1 → t.pc = s.pc)

/-- An instruction that neither stores nor pushes leaves every byte of RAM and of the I/O shadow, the audio unit and the
timer's registers as they were; the timer flag stays too unless it reads $DC0D, and the count of draws unless it reads an
input port or an interception of the host's own is registered (R93, R94). -/
def Obligations.NonStoringFrame : Prop :=
  ∀ (i : Instr) (s t : State), WellFormed i → exec i s = .next t →
    ((0xDC0D : Addr) ∉ readAddresses i s → t.timerLatched = s.timerLatched) ∧
    (NoHostCallback s.params → (0xDC00 : Addr) ∉ readAddresses i s → (0xDC01 : Addr) ∉ readAddresses i s →
      t.draws = s.draws) ∧
    (storeAddress i s = none → opcodeOf i ∉ pushRows →
      (∀ k, t.ram.read k = s.ram.read k) ∧ (∀ k, t.shadow.read k = s.shadow.read k) ∧ t.audio = s.audio ∧
      t.rasterLatched = s.rasterLatched ∧ t.timerLatch = s.timerLatch ∧ t.timerCounter = s.timerCounter ∧
      t.icrMask = s.icrMask)

/-- A storing or read-modify-write instruction writes at the address its mode gives and nowhere else: one byte of RAM, or, with
I/O banked in, one byte of the I/O shadow with the device effect of that address alone (R86, R93, R107, R141 to R147). -/
def Obligations.StoringFrame : Prop :=
  ∀ (i : Instr) (s t : State) (a : Addr), MemoryInv s → exec i s = .next t → storeAddress i s = some a →
    (isIO a s = false →
      (∀ k, k ≠ a.toNat → t.ram.read k = s.ram.read k) ∧ (∀ k, t.shadow.read k = s.shadow.read k) ∧
      t.audio = s.audio ∧ t.rasterLatched = s.rasterLatched ∧ t.timerLatch = s.timerLatch ∧
      t.timerCounter = s.timerCounter ∧ t.icrMask = s.icrMask) ∧
    (isIO a s = true →
      (∀ k, t.ram.read k = s.ram.read k) ∧ (∀ k, k ≠ a.toNat - 0xD000 → t.shadow.read k = s.shadow.read k) ∧
      (¬ (0xD400 ≤ a.toNat ∧ a.toNat ≤ 0xD41F) → t.audio = s.audio) ∧
      (a ≠ 0xD019 → t.rasterLatched = s.rasterLatched) ∧
      (a ≠ 0xDC04 → a ≠ 0xDC05 → t.timerLatch = s.timerLatch) ∧
      (a ≠ 0xDC05 → a ≠ 0xDC0E → t.timerCounter = s.timerCounter) ∧ (a ≠ 0xDC0D → t.icrMask = s.icrMask))

/-- PHA and PHP write one byte of RAM, JSR two and BRK three, at `0x0100 | S` and below it in page 1; no other byte of RAM, no
byte of the I/O shadow and no device changes, as long as BRK's vector comes from RAM (R93, R98, R99). -/
def Obligations.PushingFrame : Prop :=
  ∀ (i : Instr) (s t : State), MemoryInv s → exec i s = .next t →
    (∃ a, i = .jsrAbs a) ∨ i = .pha ∨ i = .php ∨ i = .brk →
    (∀ k, k ≠ 256 + s.sp.toNat →
      ((∃ a, i = .jsrAbs a) ∨ i = .brk → k ≠ 256 + (s.sp - 1).toNat) → (i = .brk → k ≠ 256 + (s.sp - 2).toNat) →
      t.ram.read k = s.ram.read k) ∧
    t.shadow = s.shadow ∧ t.audio = s.audio ∧ t.rasterLatched = s.rasterLatched ∧ t.timerLatch = s.timerLatch ∧
    t.timerCounter = s.timerCounter ∧ t.icrMask = s.icrMask ∧
    ((i = .brk → InRam s.params.vecIrq s) →
      t.timerLatched = s.timerLatched ∧ t.draws = s.draws ∧ t.resetPending = s.resetPending)

/-! ## What each instruction does -/

/-- LDA, LDX, LDY, STA, STX, STY in every mode (R201 to R206). -/
def Obligations.LoadsAndStores : Prop :=
  ∀ (s : State) (b : Byte) (a : Addr),
    let toA : Byte → State → State := fun v u => { u with a := v, flags := zn v u.flags }
    let toX : Byte → State → State := fun v u => { u with x := v, flags := zn v u.flags }
    let toY : Byte → State → State := fun v u => { u with y := v, flags := zn v u.flags }
    ReadsInEightModes .ldaImm .ldaZp .ldaZpx .ldaAbs .ldaAbsx .ldaAbsy .ldaIzx .ldaIzy
      0xA9 0xA5 0xB5 0xAD 0xBD 0xB9 0xA1 0xB1 toA s b a ∧
    (Does (.ldxImm b) 0xA2 s { toX b s with cycles := s.cycles + 2 } ∧ Reads (.ldxZp b) 0xA6 (eaZp b) 3 toX s ∧
      Reads (.ldxZpy b) 0xB6 (eaZpy b s) 4 toX s ∧ Reads (.ldxAbs a) 0xAE (eaAbs a) 4 toX s ∧
      Reads (.ldxAbsy a) 0xBE (eaAbsy a s) (4 + penalty (eaAbsy a s)) toX s) ∧
    (Does (.ldyImm b) 0xA0 s { toY b s with cycles := s.cycles + 2 } ∧ Reads (.ldyZp b) 0xA4 (eaZp b) 3 toY s ∧
      Reads (.ldyZpx b) 0xB4 (eaZpx b s) 4 toY s ∧ Reads (.ldyAbs a) 0xAC (eaAbs a) 4 toY s ∧
      Reads (.ldyAbsx a) 0xBC (eaAbsx a s) (4 + penalty (eaAbsx a s)) toY s) ∧
    (Writes (.staZp b) 0x85 (eaZp b) 3 s.a s ∧ Writes (.staZpx b) 0x95 (eaZpx b s) 4 s.a s ∧
      Writes (.staAbs a) 0x8D (eaAbs a) 4 s.a s ∧ Writes (.staAbsx a) 0x9D (eaAbsx a s) 5 s.a s ∧
      Writes (.staAbsy a) 0x99 (eaAbsy a s) 5 s.a s ∧ Writes (.staIzx b) 0x81 (eaIzx b s) 6 s.a s ∧
      Writes (.staIzy b) 0x91 (eaIzy b s) 6 s.a s) ∧
    (Writes (.stxZp b) 0x86 (eaZp b) 3 s.x s ∧ Writes (.stxZpy b) 0x96 (eaZpy b s) 4 s.x s ∧
      Writes (.stxAbs a) 0x8E (eaAbs a) 4 s.x s) ∧
    (Writes (.styZp b) 0x84 (eaZp b) 3 s.y s ∧ Writes (.styZpx b) 0x94 (eaZpx b s) 4 s.y s ∧
      Writes (.styAbs a) 0x8C (eaAbs a) 4 s.y s)

/-- TAX, TAY, TXA, TYA, TSX, TXS, INX, INY, DEX, DEY (R207 to R212, R266 to R269). -/
def Obligations.TransfersAndCounts : Prop :=
  ∀ s : State,
    let next : Nat := s.cycles + 2
    Does .tax 0xAA s { s with x := s.a, flags := zn s.a s.flags, cycles := next } ∧
    Does .tay 0xA8 s { s with y := s.a, flags := zn s.a s.flags, cycles := next } ∧
    Does .txa 0x8A s { s with a := s.x, flags := zn s.x s.flags, cycles := next } ∧
    Does .tya 0x98 s { s with a := s.y, flags := zn s.y s.flags, cycles := next } ∧
    Does .tsx 0xBA s { s with x := s.sp, flags := zn s.sp s.flags, cycles := next } ∧
    Does .txs 0x9A s { s with sp := s.x, cycles := next } ∧
    Does .inx 0xE8 s { s with x := s.x + 1, flags := zn (s.x + 1) s.flags, cycles := next } ∧
    Does .iny 0xC8 s { s with y := s.y + 1, flags := zn (s.y + 1) s.flags, cycles := next } ∧
    Does .dex 0xCA s { s with x := s.x - 1, flags := zn (s.x - 1) s.flags, cycles := next } ∧
    Does .dey 0x88 s { s with y := s.y - 1, flags := zn (s.y - 1) s.flags, cycles := next }

/-- AND, ORA, EOR, BIT, CMP, CPX, CPY in every mode (R256 to R263). -/
def Obligations.LogicAndCompare : Prop :=
  ∀ (s : State) (b : Byte) (a : Addr),
    let cmp (r : State → Byte) : Byte → State → State :=
      fun m u => { u with flags := { zn (r u - m) u.flags with c := decide (m.toNat ≤ (r u).toNat) } }
    let bit : Byte → State → State :=
      fun m u => { u with flags := { u.flags with z := decide (u.a &&& m = 0), n := m.getLsbD 7, v := m.getLsbD 6 } }
    ReadsInEightModes .andImm .andZp .andZpx .andAbs .andAbsx .andAbsy .andIzx .andIzy
      0x29 0x25 0x35 0x2D 0x3D 0x39 0x21 0x31 (fun m u => { u with a := u.a &&& m, flags := zn (u.a &&& m) u.flags }) s b a ∧
    ReadsInEightModes .oraImm .oraZp .oraZpx .oraAbs .oraAbsx .oraAbsy .oraIzx .oraIzy
      0x09 0x05 0x15 0x0D 0x1D 0x19 0x01 0x11 (fun m u => { u with a := u.a ||| m, flags := zn (u.a ||| m) u.flags }) s b a ∧
    ReadsInEightModes .eorImm .eorZp .eorZpx .eorAbs .eorAbsx .eorAbsy .eorIzx .eorIzy
      0x49 0x45 0x55 0x4D 0x5D 0x59 0x41 0x51 (fun m u => { u with a := u.a ^^^ m, flags := zn (u.a ^^^ m) u.flags }) s b a ∧
    ReadsInEightModes .cmpImm .cmpZp .cmpZpx .cmpAbs .cmpAbsx .cmpAbsy .cmpIzx .cmpIzy
      0xC9 0xC5 0xD5 0xCD 0xDD 0xD9 0xC1 0xD1 (cmp State.a) s b a ∧
    (Reads (.bitZp b) 0x24 (eaZp b) 3 bit s ∧ Reads (.bitAbs a) 0x2C (eaAbs a) 4 bit s) ∧
    (Does (.cpxImm b) 0xE0 s { cmp State.x b s with cycles := s.cycles + 2 } ∧
      Reads (.cpxZp b) 0xE4 (eaZp b) 3 (cmp State.x) s ∧ Reads (.cpxAbs a) 0xEC (eaAbs a) 4 (cmp State.x) s) ∧
    (Does (.cpyImm b) 0xC0 s { cmp State.y b s with cycles := s.cycles + 2 } ∧
      Reads (.cpyZp b) 0xC4 (eaZp b) 3 (cmp State.y) s ∧ Reads (.cpyAbs a) 0xCC (eaAbs a) 4 (cmp State.y) s)

/-- The binary and decimal add and subtract rules, and ADC and SBC in every mode (R250 to R255). -/
def Obligations.AddAndSubtract : Prop :=
  (∀ (m : Byte) (s : State),
    let c : Nat := if s.flags.c then 1 else 0
    let sum : Nat := s.a.toNat + m.toNat + c
    let r : Byte := BitVec.ofNat 8 sum
    let lo : Nat := (s.a.toNat &&& 0x0F) + (m.toNat &&& 0x0F) + c
    let lo : Nat := if lo > 0x09 then lo + 0x06 else lo
    let t : Nat := (lo &&& 0x0F) + (s.a.toNat &&& 0xF0) + (m.toNat &&& 0xF0) + (if lo > 0x0F then 0x10 else 0x00)
    let u : Nat := if (t &&& 0x1F0) > 0x90 then t + 0x60 else t
    let diff : Int := (s.a.toNat : Int) - m.toNat - (1 - c)
    let q : Byte := BitVec.ofInt 8 diff
    let dlo : Int := (s.a.toNat &&& 0x0F : Nat) - (m.toNat &&& 0x0F : Nat) - (1 - c)
    let dhi : Int := (s.a.toNat >>> 4 : Nat) - (m.toNat >>> 4 : Nat)
    let dhi : Int := if dlo < 0 then dhi - 1 else dhi
    let dlo : Int := if dlo < 0 then dlo - 6 else dlo
    let dhi : Int := if dhi < 0 then dhi - 6 else dhi
    let flagsOfSub : Flags :=
      { zn q s.flags with c := decide (0 ≤ diff), v := decide (((s.a ^^^ m) &&& (s.a ^^^ q) &&& 0x80) ≠ 0) }
    addBinary m s =
      { s with
        a := r
        flags := { zn r s.flags with c := decide (sum > 0xFF), v := decide (((s.a ^^^ r) &&& (m ^^^ r) &&& 0x80) ≠ 0) } } ∧
    addDecimal m s =
      { s with
        a := BitVec.ofNat 8 u
        flags := { s.flags with
          z := decide (sum % 256 = 0)
          n := t.testBit 7
          v := decide (((s.a.toNat ^^^ t) &&& 0x80) ≠ 0 ∧ ((s.a.toNat ^^^ m.toNat) &&& 0x80) = 0)
          c := decide ((u &&& 0xFF0) > 0xF0) } } ∧
    subBinary m s = { s with a := q, flags := flagsOfSub } ∧
    subDecimal m s = { s with a := BitVec.ofInt 8 ((dhi % 16) * 16 + dlo % 16), flags := flagsOfSub }) ∧
  ∀ (s : State) (b : Byte) (a : Addr),
    ReadsInEightModes .adcImm .adcZp .adcZpx .adcAbs .adcAbsx .adcAbsy .adcIzx .adcIzy
      0x69 0x65 0x75 0x6D 0x7D 0x79 0x61 0x71 (fun m u => if u.flags.d = false then addBinary m u else addDecimal m u) s b a ∧
    ReadsInEightModes .sbcImm .sbcZp .sbcZpx .sbcAbs .sbcAbsx .sbcAbsy .sbcIzx .sbcIzy
      0xE9 0xE5 0xF5 0xED 0xFD 0xF9 0xE1 0xF1 (fun m u => if u.flags.d = false then subBinary m u else subDecimal m u) s b a

/-- INC, DEC, ASL, LSR, ROL, ROR in every mode (R264, R265, R270 to R274). -/
def Obligations.CountsAndShifts : Prop :=
  let carry (c : Bool) (k : Nat) : Byte := if c then BitVec.ofNat 8 (2 ^ k) else 0
  let left : Byte → Byte → State → State := fun old new u => { u with flags := { zn new u.flags with c := old.getLsbD 7 } }
  let right : Byte → Byte → State → State := fun old new u => { u with flags := { zn new u.flags with c := old.getLsbD 0 } }
  let only : Byte → Byte → State → State := fun _ new u => { u with flags := zn new u.flags }
  ∀ (s : State) (b : Byte) (a : Addr),
    ModifiesInFourModes .incZp .incZpx .incAbs .incAbsx 0xE6 0xF6 0xEE 0xFE (fun v _ => v + 1) only s b a ∧
    ModifiesInFourModes .decZp .decZpx .decAbs .decAbsx 0xC6 0xD6 0xCE 0xDE (fun v _ => v - 1) only s b a ∧
    ModifiesInFourModes .aslZp .aslZpx .aslAbs .aslAbsx 0x06 0x16 0x0E 0x1E (fun v _ => v <<< 1) left s b a ∧
    ModifiesInFourModes .lsrZp .lsrZpx .lsrAbs .lsrAbsx 0x46 0x56 0x4E 0x5E (fun v _ => v >>> 1) right s b a ∧
    ModifiesInFourModes .rolZp .rolZpx .rolAbs .rolAbsx 0x26 0x36 0x2E 0x3E (fun v c => v <<< 1 ||| carry c 0) left s b a ∧
    ModifiesInFourModes .rorZp .rorZpx .rorAbs .rorAbsx 0x66 0x76 0x6E 0x7E (fun v c => v >>> 1 ||| carry c 7) right s b a ∧
    (let onA (r : Byte) (g : Byte → Byte → State → State) : State := { g s.a r s with a := r, cycles := s.cycles + 2 }
     Does .aslAcc 0x0A s (onA (s.a <<< 1) left) ∧ Does .lsrAcc 0x4A s (onA (s.a >>> 1) right) ∧
     Does .rolAcc 0x2A s (onA (s.a <<< 1 ||| carry s.flags.c 0) left) ∧
     Does .rorAcc 0x6A s (onA (s.a >>> 1 ||| carry s.flags.c 7) right))

/-- The eight branches, taken and not taken, with their costs (R300 to R308). -/
def Obligations.BranchInstructions : Prop :=
  ∀ (s : State) (off : Int),
    Branches .bcc 0x90 (fun f => !f.c) s off ∧ Branches .bcs 0xB0 (fun f => f.c) s off ∧
    Branches .beq 0xF0 (fun f => f.z) s off ∧ Branches .bne 0xD0 (fun f => !f.z) s off ∧
    Branches .bmi 0x30 (fun f => f.n) s off ∧ Branches .bpl 0x10 (fun f => !f.n) s off ∧
    Branches .bvc 0x50 (fun f => !f.v) s off ∧ Branches .bvs 0x70 (fun f => f.v) s off

/-- JMP in both modes, JSR, RTS, RTI and BRK (R309 to R313). BRK's recorded event is R414's. -/
def Obligations.JumpsReturnsBreak : Prop :=
  ∀ (s : State) (a : Addr),
    Does (.jmpAbs a) 0x4C s { s with pc := a, cycles := s.cycles + 3 } ∧
    Does (.jmpInd a) 0x6C s { (jumpIndirect a s).2 with pc := (jumpIndirect a s).1, cycles := s.cycles + 5 } ∧
    (let ret := s.pc - 1
     Does (.jsrAbs a) 0x20 s { push (loByte ret) (push (hiByte ret) s) with pc := a, cycles := s.cycles + 6 }) ∧
    (let lo := pull s
     let hi := pull lo.2
     Does .rts 0x60 s { hi.2 with pc := mkAddr lo.1 hi.1 + 1, cycles := s.cycles + 6 }) ∧
    (let p := pull s
     let lo := pull p.2
     let hi := pull lo.2
     Does .rti 0x40 s { hi.2 with flags := flagsOfP p.1, pc := mkAddr lo.1 hi.1, cycles := s.cycles + 6 }) ∧
    (let ret := s.pc + 1
     let u := push (getP s.flags) (push (loByte ret) (push (hiByte ret) s))
     let v := memRead16 s.params.vecIrq { u with flags := { s.flags with i := true } }
     Does .brk 0x00 s
       { v.2 with
         pc := v.1
         cycles := s.cycles + 7
         events := .brk ret (getP s.flags) :: s.events })

/-- PHA, PHP, PLA, PLP, CLC, SEC, CLI, SEI, CLD, SED, CLV and the official NOP (R213 to R216, R314 to R321). -/
def Obligations.StackAndFlagInstructions : Prop :=
  ∀ s : State,
    let flagged (f : Flags) : State := { s with flags := f, cycles := s.cycles + 2 }
    Does .pha 0x48 s { push s.a s with cycles := s.cycles + 3 } ∧
    Does .php 0x08 s { push (getP s.flags) s with cycles := s.cycles + 3 } ∧
    Does .pla 0x68 s { (pull s).2 with a := (pull s).1, flags := zn (pull s).1 s.flags, cycles := s.cycles + 4 } ∧
    Does .plp 0x28 s
      { (pull s).2 with
        flags :=
          { c := (pull s).1.getLsbD 0, z := (pull s).1.getLsbD 1, i := (pull s).1.getLsbD 2, d := (pull s).1.getLsbD 3,
            v := (pull s).1.getLsbD 6, n := (pull s).1.getLsbD 7 }
        cycles := s.cycles + 4 } ∧
    Does .clc 0x18 s (flagged { s.flags with c := false }) ∧ Does .sec 0x38 s (flagged { s.flags with c := true }) ∧
    Does .cli 0x58 s (flagged { s.flags with i := false }) ∧ Does .sei 0x78 s (flagged { s.flags with i := true }) ∧
    Does .cld 0xD8 s (flagged { s.flags with d := false }) ∧ Does .sed 0xF8 s (flagged { s.flags with d := true }) ∧
    Does .clv 0xB8 s (flagged { s.flags with v := false }) ∧ Does .nop 0xEA s (flagged s.flags)

/-- SLO, RLA, SRE, RRA, DCP, ISC in every mode, where ILLEGAL_SET holds the opcode (R353 to R356, R359, R360). -/
def Obligations.IllegalReadModifyWrite : Prop :=
  let carry (c : Bool) (k : Nat) : Byte := if c then BitVec.ofNat 8 (2 ^ k) else 0
  let adc : Byte → State → State := fun m u => if u.flags.d = false then addBinary m u else addDecimal m u
  let sbc : Byte → State → State := fun m u => if u.flags.d = false then subBinary m u else subDecimal m u
  ∀ (s : State) (b : Byte) (a : Addr),
    ModifiesInSevenModes .sloZp .sloZpx .sloAbs .sloAbsx .sloAbsy .sloIzx .sloIzy 0x07 0x17 0x0F 0x1F 0x1B 0x03 0x13
      (fun v _ => v <<< 1)
      (fun old new u => { u with a := u.a ||| new, flags := { zn (u.a ||| new) u.flags with c := old.getLsbD 7 } }) s b a ∧
    ModifiesInSevenModes .rlaZp .rlaZpx .rlaAbs .rlaAbsx .rlaAbsy .rlaIzx .rlaIzy 0x27 0x37 0x2F 0x3F 0x3B 0x23 0x33
      (fun v c => v <<< 1 ||| carry c 0)
      (fun old new u => { u with a := u.a &&& new, flags := { zn (u.a &&& new) u.flags with c := old.getLsbD 7 } }) s b a ∧
    ModifiesInSevenModes .sreZp .sreZpx .sreAbs .sreAbsx .sreAbsy .sreIzx .sreIzy 0x47 0x57 0x4F 0x5F 0x5B 0x43 0x53
      (fun v _ => v >>> 1)
      (fun old new u => { u with a := u.a ^^^ new, flags := { zn (u.a ^^^ new) u.flags with c := old.getLsbD 0 } }) s b a ∧
    ModifiesInSevenModes .rraZp .rraZpx .rraAbs .rraAbsx .rraAbsy .rraIzx .rraIzy 0x67 0x77 0x6F 0x7F 0x7B 0x63 0x73
      (fun v c => v >>> 1 ||| carry c 7)
      (fun old new u => adc new { u with flags := { u.flags with c := old.getLsbD 0 } }) s b a ∧
    ModifiesInSevenModes .dcpZp .dcpZpx .dcpAbs .dcpAbsx .dcpAbsy .dcpIzx .dcpIzy 0xC7 0xD7 0xCF 0xDF 0xDB 0xC3 0xD3
      (fun v _ => v - 1)
      (fun _ new u => { u with flags := { zn (u.a - new) u.flags with c := decide (new.toNat ≤ u.a.toNat) } }) s b a ∧
    ModifiesInSevenModes .iscZp .iscZpx .iscAbs .iscAbsx .iscAbsy .iscIzx .iscIzy 0xE7 0xF7 0xEF 0xFF 0xFB 0xE3 0xF3
      (fun v _ => v + 1) (fun _ new u => sbc new u) s b a

/-- SAX, LAX, ANC, ALR, ARR, SBX, USBC, where ILLEGAL_SET holds the opcode (R357, R358, R361 to R365). -/
def Obligations.IllegalMovesAndImmediates : Prop :=
  ∀ (s : State) (b : Byte) (a : Addr),
    let lax : Byte → State → State := fun v u => { u with a := v, x := v, flags := zn v u.flags }
    let t : Byte := s.a &&& b
    let c7 : Byte := if s.flags.c then 0x80 else 0
    let ror : Byte := t >>> 1 ||| c7
    let fix : Byte := if (t.toNat &&& 0x0F) + (t.toNat &&& 0x01) > 5 then (ror &&& 0xF0) ||| ((ror + 6) &&& 0x0F) else ror
    let high : Prop := (t.toNat >>> 4) + ((t.toNat >>> 4) &&& 1) > 5
    (InSet s 0x87 → Writes (.saxZp b) 0x87 (eaZp b) 3 (s.a &&& s.x) s) ∧
    (InSet s 0x97 → Writes (.saxZpy b) 0x97 (eaZpy b s) 4 (s.a &&& s.x) s) ∧
    (InSet s 0x8F → Writes (.saxAbs a) 0x8F (eaAbs a) 4 (s.a &&& s.x) s) ∧
    (InSet s 0x83 → Writes (.saxIzx b) 0x83 (eaIzx b s) 6 (s.a &&& s.x) s) ∧
    (InSet s 0xA7 → Reads (.laxZp b) 0xA7 (eaZp b) 3 lax s) ∧
    (InSet s 0xB7 → Reads (.laxZpy b) 0xB7 (eaZpy b s) 4 lax s) ∧
    (InSet s 0xAF → Reads (.laxAbs a) 0xAF (eaAbs a) 4 lax s) ∧
    (InSet s 0xBF → Reads (.laxAbsy a) 0xBF (eaAbsy a s) (4 + penalty (eaAbsy a s)) lax s) ∧
    (InSet s 0xA3 → Reads (.laxIzx b) 0xA3 (eaIzx b s) 6 lax s) ∧
    (InSet s 0xB3 → Reads (.laxIzy b) 0xB3 (eaIzy b s) (5 + penalty (eaIzy b s)) lax s) ∧
    (∀ op ∈ [0x0B, 0x2B], InSet s op →
      Does (.ancImm op b) op s
        { s with a := t, flags := { zn t s.flags with c := t.getLsbD 7 }, cycles := s.cycles + 2 }) ∧
    (InSet s 0x4B →
      Does (.alrImm b) 0x4B s
        { s with a := t >>> 1, flags := { zn (t >>> 1) s.flags with c := t.getLsbD 0 }, cycles := s.cycles + 2 }) ∧
    (InSet s 0x6B → s.flags.d = false →
      Does (.arrImm b) 0x6B s
        { s with
          a := ror
          flags := { zn ror s.flags with c := ror.getLsbD 6, v := ror.getLsbD 6 ^^ ror.getLsbD 5 }
          cycles := s.cycles + 2 }) ∧
    (InSet s 0x6B → s.flags.d = true →
      Does (.arrImm b) 0x6B s
        { s with
          a := if high then fix + 0x60 else fix
          flags := { s.flags with n := s.flags.c, z := decide (ror = 0), v := (t ^^^ ror).getLsbD 6, c := decide high }
          cycles := s.cycles + 2 }) ∧
    (InSet s 0xCB →
      Does (.sbxImm b) 0xCB s
        { s with
          x := BitVec.ofInt 8 (((s.a &&& s.x).toNat : Int) - b.toNat)
          flags :=
            { zn (BitVec.ofInt 8 (((s.a &&& s.x).toNat : Int) - b.toNat)) s.flags with
              c := decide (0 ≤ ((s.a &&& s.x).toNat : Int) - b.toNat) }
          cycles := s.cycles + 2 }) ∧
    (InSet s 0xEB →
      Does (.usbcImm b) 0xEB s
        { (if s.flags.d = false then subBinary b s else subDecimal b s) with cycles := s.cycles + 2 })

/-- The illegal NOPs, where ILLEGAL_SET holds the opcode, and the jam opcodes, whatever it holds, in JAM_CYCLES, 2 by default
(R351, R366). The recorded event of a jam is R414's. -/
def Obligations.IllegalNopsAndJam : Prop :=
  defaultParams.jamCycles = 2 ∧ ∀ (s : State) (b : Byte) (a : Addr),
    let after (n : Nat) : State := { s with cycles := s.cycles + n }
    (∀ op ∈ [0x1A, 0x3A, 0x5A, 0x7A, 0xDA, 0xFA], InSet s op → Does (.nopImp op) op s (after 2)) ∧
    (∀ op ∈ [0x80, 0x82, 0x89, 0xC2, 0xE2], InSet s op → Does (.nopImm op b) op s (after 2)) ∧
    (∀ op ∈ [0x04, 0x44, 0x64], InSet s op → Does (.nopZp op b) op s (after 3)) ∧
    (∀ op ∈ [0x14, 0x34, 0x54, 0x74, 0xD4, 0xF4], InSet s op → Does (.nopZpx op b) op s (after 4)) ∧
    (InSet s 0x0C → Does (.nopAbs a) 0x0C s (after 4)) ∧
    (∀ op ∈ [0x1C, 0x3C, 0x5C, 0x7C, 0xDC, 0xFC], InSet s op →
      Does (.nopAbsx op a) op s (after (4 + penalty (eaAbsx a s)))) ∧
    (∀ op ∈ [0x02, 0x12, 0x22, 0x32, 0x42, 0x52, 0x62, 0x72, 0x92, 0xB2, 0xD2, 0xF2],
      Does (.jam op) op s { s with mode := .jammed, cycles := s.cycles + s.params.jamCycles, events := .jam s.pc :: s.events })

/-! ## What the arithmetic means -/

/-- In binary mode the accumulator and the carry are the sum, or the difference and the borrow, exactly, and V is set exactly
where the signed result does not fit 8 bits; a compare sets C where the register is not below the operand and Z where they
are equal (R250, R252, R260, R275). -/
def Obligations.BinaryArithmeticExact : Prop :=
  ∀ (m : Byte) (s : State),
    let c : Nat := if s.flags.c then 1 else 0
    let add := addBinary m s
    let sub := subBinary m s
    s.a.toNat + m.toNat + c = (if add.flags.c then 256 else 0) + add.a.toNat ∧
    (add.flags.v = true ↔ s.a.toInt + m.toInt + c < -128 ∨ 127 < s.a.toInt + m.toInt + c) ∧
    (s.a.toNat : Int) - m.toNat - (1 - c) = sub.a.toNat - (if sub.flags.c then 0 else 256) ∧
    (sub.flags.v = true ↔ s.a.toInt - m.toInt - (1 - c) < -128 ∨ 127 < s.a.toInt - m.toInt - (1 - c)) ∧
    ((compareA m s).flags.c = true ↔ m.toNat ≤ s.a.toNat) ∧ ((compareA m s).flags.z = true ↔ m = s.a)

/-- In decimal mode, on operands whose digits are decimal, the accumulator is the decimal sum or difference modulo 100, again
in decimal digits, and C the decimal carry, or its absence of a borrow (R251, R253). -/
def Obligations.DecimalArithmeticOnDigits : Prop :=
  ∀ (m : Byte) (s : State),
    let digits (v : Byte) : Prop := v.toNat % 16 ≤ 9 ∧ v.toNat / 16 ≤ 9
    let value (v : Byte) : Nat := v.toNat / 16 * 10 + v.toNat % 16
    let c : Nat := if s.flags.c then 1 else 0
    let add := addDecimal m s
    let sub := subDecimal m s
    digits s.a → digits m →
      digits add.a ∧ value s.a + value m + c = (if add.flags.c then 100 else 0) + value add.a ∧
      digits sub.a ∧ (value s.a : Int) - value m - (1 - c) = value sub.a - (if sub.flags.c then 0 else 100)

/-! ## Invariants and the whole block -/

/-- Every step of the block keeps RAM and SHADOW in canonical form: strictly rising addresses inside the array, no cell that
holds what an unlisted address reads as (R50; the form is the model's own, log entry 1). -/
def Obligations.MemoryInvariant : Prop :=
  ∀ s t : State, MemoryInv s → step s = .next t → MemoryInv t

/-- Every step of the block keeps the ranges that the rules give the scheduler's, the video unit's and the audio unit's state
(R449, R502, R553, R576). -/
def Obligations.UnitInvariants : Prop :=
  ∀ s t : State, SchedulerInv s → VideoInv s.video → AudioInv s.audio → step s = .next t →
    SchedulerInv t ∧ VideoInv t.video ∧ AudioInv t.audio

/-- The frame loop as R450 and R452 write it is what the block's steps do: a frame that runs to its end is reached by steps
(R450, R452), where every step costs a cycle (R453). MODEL'S CHOICE: the split of the loop into block steps, whose position
State.phase holds (log entry 8). -/
def Obligations.FrameIsSteps : Prop :=
  ∀ s t : State, StepsCost s.params → s.phase = .idle → s.hostActions = [] → s.frameRequests ≠ 0 →
    runFrame s = .next t → ∃ k, Host.Core.run Sys2Proof.core k s = .next t

/-- Neither the video nor the audio unit is seen by the rest of the block: from two states that differ in them alone, a step
leads to two states that differ in them alone (R111). -/
def Obligations.UnitsDoNotFeedBack : Prop :=
  ∀ (s t : State) (v : Video) (au : Audio), step s = .next t →
    ∃ v' au', step { s with video := v, audio := au } = .next { t with video := v', audio := au' }

/-- At a line's start the raster flag is latched exactly when it is enabled and the line is the nine-bit target, which a
target of LINES_PER_FRAME, 312 by default, or more never is; nothing else unlatches or latches it there (R454). -/
def Obligations.RasterCompare : Prop :=
  defaultParams.linesPerFrame = 312 ∧ ∀ (n : Nat) (s : State),
    let target : Nat := (s.shadow.read 0x012).toNat ||| (((s.shadow.read 0x011).toNat &&& 0x80) <<< 1)
    (beginLine n s).line = n ∧
    ((beginLine n s).rasterLatched = true ↔
      s.rasterLatched = true ∨ ((s.shadow.read 0x01A).toNat &&& 0x01 = 1 ∧ n = target)) ∧
    (s.params.linesPerFrame ≤ target → n < s.params.linesPerFrame →
      (beginLine n s).rasterLatched = s.rasterLatched) ∧
    (beginLine n s).ram = s.ram ∧ (beginLine n s).shadow = s.shadow

/-- At a line's start a running timer goes down by CYCLES_PER_LINE, 63 by default; below zero it is reloaded from the latch, as
often as it takes, and the timer flag is latched if the mask allows it; a stopped timer does not move (R460). -/
def Obligations.TimerCountdown : Prop :=
  defaultParams.cyclesPerLine = 63 ∧
  ∀ s : State, 0 ≤ s.timerCounter →
    let n : Int := s.params.cyclesPerLine
    ((s.shadow.read 0xC0E).getLsbD 0 = false → timerLine s = s) ∧
    ((s.shadow.read 0xC0E).getLsbD 0 = true →
      ∃ k : Nat,
        timerLine s =
          { s with
            timerCounter := s.timerCounter - n + k * ((s.timerLatch.toNat : Int) + 1)
            timerLatched := s.timerLatched || (decide (s.timerCounter < n) && s.icrMask.getLsbD 0) } ∧
        0 ≤ s.timerCounter - n + k * ((s.timerLatch.toNat : Int) + 1) ∧
        (k ≠ 0 → s.timerCounter - n + (k - 1) * ((s.timerLatch.toNat : Int) + 1) < 0))

/-- The cycle target is absolute: a line ends at or past its target, by less than the cost of one step, and a line whose target
is reached when it starts runs no step (R453). -/
def Obligations.LineBudget : Prop :=
  ∀ (n : Nat) (s t : State), runLine n s = .next t →
    let target := s.lineTarget + s.params.cyclesPerLine
    t.lineTarget = target ∧ (StepsCost s.params → target ≤ t.cycles) ∧
    (s.cycles < target → t.cycles < target + stepBound s.params) ∧
    (target ≤ s.cycles → t.cycles = s.cycles)

/-- The boot step: a file's bytes go to RAM from its load address up, clamped at 65535, the reset vector is the entry, and a
reset is requested; only page 0 may be patched besides; with no file nothing happens (R96, R470). MODEL'S CHOICE: a file of no
byte or of one byte is a no-op too (log entry 9). The free patch and entry are BOOT_PATCH's and BOOT_ENTRY's; no clause rests
on the `end` that BOOT_PATCH is given (log entry 19). -/
def Obligations.BootImage : Prop :=
  (∀ s : State, loadImage none s = s ∧ loadImage (some []) s = s ∧ ∀ b : Byte, loadImage (some [b]) s = s) ∧
  ∀ (b0 b1 : Byte) (rest : List Byte) (s : State), MemoryInv s →
    let load := mkAddr b0 b1
    let lo := s.params.vecReset.toNat
    let hi := (s.params.vecReset + 1).toNat
    let t := loadImage (some (b0 :: b1 :: rest)) s
    t.resetPending = true ∧
    t.ram.read lo = loByte (Config.bootEntry load) ∧ t.ram.read hi = hiByte (Config.bootEntry load) ∧
    (∀ k, 256 ≤ k → k ≠ lo → k ≠ hi → k < 65536 →
      t.ram.read k = if load.toNat ≤ k then rest.getD (k - load.toNat) (s.ram.read k) else s.ram.read k) ∧
    { t with ram := s.ram, resetPending := s.resetPending } = s

/-! ## The video unit -/

/-- A sprite on a line: an inactive one is activated where it is enabled and the line is one past its Y, and an active one
advances a row and ends after its 21st; an activated sprite is active on exactly 21 lines (R520, R522). -/
def Obligations.SpriteLines : Prop :=
  (∀ (c : Params) (ram sh : Memory) (n i : Nat) (v : Video) (p : Sprite), v.sprites[i]? = some p →
    (videoLine c ram sh n v).sprites[i]? =
      some (if p.active then (if p.row + 1 = 21 then ⟨false, 0⟩ else ⟨true, p.row + 1⟩)
        else if (sh.read 0x015).getLsbD i && decide (n % 256 = ((sh.read (0x001 + 2 * i)).toNat + 1) % 256) then ⟨true, 1⟩
        else p)) ∧
  (∀ k : Nat, (advanceSprite^[k] ⟨true, 0⟩) = if k < 21 then ⟨true, k⟩ else ⟨false, 0⟩)

/-- The badline: its condition, the row it fetches, from the screen base of the video bank, and what it sets; and the row
counter on every other line (R504, R514). -/
def Obligations.BadlineFetch : Prop :=
  ∀ (ram sh : Memory) (n : Nat) (v : Video),
    let bank : Nat := (3 - ((sh.read 0xD00).toNat &&& 0x03)) * 0x4000
    let screen : Nat := bank + (((sh.read 0x018).toNat >>> 4) &&& 0x0F) * 0x400
    let badline : Prop :=
      (sh.read 0x011).getLsbD 4 = true ∧ 0x30 ≤ n ∧ n ≤ 0xF7 ∧ n % 8 = (sh.read 0x011).toNat % 8 ∧ v.fetchedRows < 25
    (badline →
      badlineStep ram sh n v =
        { v with
          curRow := v.fetchedRows
          fetchedRows := v.fetchedRows + 1
          screenRow := (List.range 40).map fun c => ram.read (screen + v.fetchedRows * 40 + c)
          colorRow := (List.range 40).map fun c => (sh.read (0x800 + v.fetchedRows * 40 + c)).setWidth 4
          rc := 0
          displayOn := true }) ∧
    (¬ badline → v.displayOn = true →
      badlineStep ram sh n v = if v.rc + 1 = 8 then { v with rc := 0, displayOn := false } else { v with rc := v.rc + 1 }) ∧
    (¬ badline → v.displayOn = false → badlineStep ram sh n v = v)

/-- A pixel of a visible line: the border colour on the border path and under the 38-column mask; elsewhere the pixel of the
lowest-numbered sprite that is drawn there, active, enabled and not transparent at that column; with none, black when idle or
in an illegal mode, else the graphics pixel (R504, R516, R519, R524, R526). -/
def Obligations.RenderPaths : Prop :=
  ∀ (ram sh : Memory) (n x : Nat) (v : Video), x < 320 →
    let den := (sh.read 0x011).getLsbD 4
    let border : Pixel := (sh.read 0x020).setWidth 4
    let vertical : Prop := if (sh.read 0x011).getLsbD 3 then n < 51 ∨ 250 < n else n < 55 ∨ 246 < n
    let masked : Prop := (sh.read 0x016).getLsbD 3 = false ∧ (x ≤ 6 ∨ 311 ≤ x)
    let illegal : Prop :=
      (sh.read 0x011).getLsbD 6 = true ∧ ((sh.read 0x011).getLsbD 5 = true ∨ (sh.read 0x016).getLsbD 4 = true)
    let bank : Nat := (3 - ((sh.read 0xD00).toNat &&& 0x03)) * 0x4000
    let screen : Nat := bank + (((sh.read 0x018).toNat >>> 4) &&& 0x0F) * 0x400
    let shown (i : Nat) : Prop := (v.sprites.getD i ⟨false, 0⟩).active = true ∧ (sh.read 0x015).getLsbD i = true
    let data (i : Nat) : Nat :=
      let a := bank + (ram.read (screen + 0x3F8 + i)).toNat * 64 + 3 * (v.sprites.getD i ⟨false, 0⟩).row
      ((ram.read a).toNat <<< 16) ||| ((ram.read (a + 1)).toNat <<< 8) ||| (ram.read (a + 2)).toNat
    let colour (i j : Nat) : Option Pixel :=
      let own : Pixel := (sh.read (0x027 + i)).setWidth 4
      let pair := (data i >>> (22 - 2 * (j >>> 1))) &&& 3
      if (sh.read 0x01C).getLsbD i = false then (if (data i).testBit (23 - j) then some own else none)
      else if pair = 0 then none
      else if pair = 1 then some ((sh.read 0x025).setWidth 4)
      else if pair = 2 then some own
      else some ((sh.read 0x026).setWidth 4)
    let spriteAt (i : Nat) : Option Pixel :=
      let left : Nat := (sh.read (2 * i)).toNat ||| (if (sh.read 0x010).getLsbD i then 0x100 else 0)
      let w : Nat := if (sh.read 0x01D).getLsbD i then 2 else 1
      if left ≤ x + 24 ∧ x + 24 < left + 24 * w then colour i ((x + 24 - left) / w) else none
    (den = false ∨ vertical → (renderRow ram sh n v)[x]? = some border) ∧
    (den = true → ¬ vertical → masked → (renderRow ram sh n v)[x]? = some border) ∧
    (den = true → ¬ vertical → ¬ masked →
      (∀ i < 8, ∀ c, shown i → spriteAt i = some c → (∀ j < i, shown j → spriteAt j = none) →
        (renderRow ram sh n v)[x]? = some c) ∧
      ((∀ i < 8, shown i → spriteAt i = none) →
        (v.displayOn = false ∨ illegal → (renderRow ram sh n v)[x]? = some 0) ∧
        (v.displayOn = true → ¬ illegal → (renderRow ram sh n v)[x]? = some (graphicsPixel ram sh v x))))

/-- The graphics pixel at a surface column: the background colour left of XSCROLL, else the character or bitmap decode of
the column's cell, from the character or the bitmap base of the video bank (R504, R517, R518). -/
def Obligations.GraphicsPixels : Prop :=
  ∀ (ram sh : Memory) (v : Video) (x : Nat),
    let xs := (sh.read 0x016).toNat % 8
    let sx := x - xs
    let px := sx % 8
    let code := (v.screenRow.getD (sx / 8) 0).toNat
    let col := v.colorRow.getD (sx / 8) 0
    let b (k : Nat) : Pixel := (sh.read (0x021 + k)).setWidth 4
    let ecm := (sh.read 0x011).getLsbD 6
    let bmm := (sh.read 0x011).getLsbD 5
    let mcm := (sh.read 0x016).getLsbD 4
    let bank : Nat := (3 - ((sh.read 0xD00).toNat &&& 0x03)) * 0x4000
    let chars : Nat := bank + (((sh.read 0x018).toNat >>> 1) &&& 0x07) * 0x800
    let bitmap : Nat := bank + (((sh.read 0x018).toNat >>> 3) &&& 0x01) * 0x2000
    let f := ram.read (chars + code * 8 + v.rc)
    let fe := ram.read (chars + code % 64 * 8 + v.rc)
    let g := ram.read (bitmap + v.curRow * 320 + sx / 8 * 8 + v.rc)
    let pair (w : Byte) : Nat := (w.toNat >>> (6 - (px &&& 6))) &&& 3
    let pick (p : Nat) (c0 c1 c2 c3 : Pixel) : Pixel := if p = 0 then c0 else if p = 1 then c1 else if p = 2 then c2 else c3
    (x < xs → graphicsPixel ram sh v x = b 0) ∧
    (xs ≤ x → bmm = false → ecm = false → mcm = false →
      graphicsPixel ram sh v x = if f.getLsbD (7 - px) then col else b 0) ∧
    (xs ≤ x → bmm = false → ecm = false → mcm = true →
      graphicsPixel ram sh v x =
        if col.getLsbD 3 then pick (pair f) (b 0) (b 1) (b 2) (col &&& 7)
        else if f.getLsbD (7 - px) then col &&& 7 else b 0) ∧
    (xs ≤ x → bmm = false → ecm = true →
      graphicsPixel ram sh v x = if fe.getLsbD (7 - px) then col else b (code / 64)) ∧
    (xs ≤ x → bmm = true → mcm = false →
      graphicsPixel ram sh v x = BitVec.ofNat 4 (if g.getLsbD (7 - px) then code / 16 else code % 16)) ∧
    (xs ≤ x → bmm = true → mcm = true →
      graphicsPixel ram sh v x = pick (pair g) (b 0) (BitVec.ofNat 4 (code / 16)) (BitVec.ofNat 4 (code % 16)) col)

/-! ## The audio unit -/

/-- The sample cadence: over any N consecutive rendered cycles the number of samples is `floor(N * rate / clock)` or one
more, and the cadence accumulator stays below the clock (R556, R572), for a sample rate up to the clock's. -/
def Obligations.SampleCadence : Prop :=
  ∀ (p : Params) (sh : Memory) (n : Nat) (au : Audio), p.sampleRateHz ≤ p.cpuClockHz → au.sampleAcc < p.cpuClockHz →
    let rate := p.sampleRateHz
    let clock := p.cpuClockHz
    let out := renderCycles p sh n au
    out.1.sampleAcc < clock ∧ out.2.length * clock + out.1.sampleAcc = n * rate + au.sampleAcc ∧
    (out.2.length = n * rate / clock ∨ out.2.length = n * rate / clock + 1)

/-- The filter is stable for every cutoff and resonance, under the default coefficients and under a host's own: on the reals its
update is linear in (bp, lp), and every eigenvalue of its matrix lies strictly inside the unit circle (R574, R575). -/
def Obligations.FilterStability : Prop :=
  ∀ (p : Params) (fc res : Nat), fc ≤ 2047 → res ≤ 15 →
    let c := filterCoeff p fc res
    StableReal c.1.toReal c.2.toReal ∧
    ∃ m11 m12 m21 m22 : ℝ,
      (∀ lp bp : RealTerm,
        let out := filterStep c.1 c.2 (.rat 0) lp bp
        out.1.toReal = m11 * bp.toReal + m12 * lp.toReal ∧ out.2.1.toReal = m21 * bp.toReal + m22 * lp.toReal) ∧
      ∀ z : ℂ, z ^ 2 - ((m11 + m22 : ℝ) : ℂ) * z + ((m11 * m22 - m12 * m21 : ℝ) : ℂ) = 0 → ‖z‖ < 1

/-- The default coefficients: the machine's are those of R574's formula, exactly, for every cutoff, resonance and sample rate,
and they meet the stability conditions; where the cutoff is a sixth of the sample rate or more, `f` is 1. And a sample: the
filter runs on them and on the routed signals, and the sample is the direct path and the selected outputs, scaled and clamped
(R573 to R576). -/
def Obligations.DefaultCoefficientsStable : Prop :=
  (∀ (p : Params) (fc res : ℕ), p.filterPolicy = .formula → 0 < p.sampleRateHz → fc ≤ 2047 → res ≤ 15 →
    let c := filterCoeff p fc res
    IsDefaultCoeff p.sampleRateHz fc res c.1.toReal c.2.toReal ∧ StableReal c.1.toReal c.2.toReal ∧
    ((p.sampleRateHz : ℝ) / 6 ≤ 30 * (400 : ℝ) ^ ((fc : ℝ) / 2047) → c.1 = .rat 1)) ∧
  ∀ (p : Params) (sh : Memory) (au : Audio),
    let mode := sh.read 0x418
    let fc := (((sh.read 0x416).toNat <<< 3) ||| ((sh.read 0x415).toNat &&& 7))
    let c := filterCoeff p fc ((sh.read 0x417).toNat >>> 4)
    let signal (i : Nat) (ch ring : Channel) : Int :=
      let ctl := sh.read (0x404 + 7 * i)
      let pw : BitVec 12 :=
        BitVec.ofNat 12 ((sh.read (0x402 + 7 * i)).toNat ||| ((sh.read (0x403 + 7 * i)).toNat <<< 8))
      if ctl.toNat / 16 = 0 then 0 else (((waveOf p ctl pw ch ring).toNat : Int) - 2048) * ch.env.toNat
    let v0 := signal 0 au.ch0 au.ch2
    let v1 := signal 1 au.ch1 au.ch0
    let v2 := signal 2 au.ch2 au.ch1
    let route (i : Nat) : Bool := (sh.read 0x417).getLsbD i
    let fin : Int := (if route 0 then v0 else 0) + (if route 1 then v1 else 0) + (if route 2 then v2 else 0)
    let dir : Int :=
      (if route 0 then 0 else v0) + (if route 1 then 0 else v1) + (if route 2 = true ∨ mode.getLsbD 7 = true then 0 else v2)
    let hp := (fin : ℝ) - au.lp.toReal - c.2.toReal * au.bp.toReal
    let bp := au.bp.toReal + c.1.toReal * hp
    let lp := au.lp.toReal + c.1.toReal * bp
    let fout := (if mode.getLsbD 4 then lp else 0) + (if mode.getLsbD 5 then bp else 0) + (if mode.getLsbD 6 then hp else 0)
    let out := computeSample p sh au
    out.1.bp.toReal = bp ∧ out.1.lp.toReal = lp ∧ { out.1 with bp := au.bp, lp := au.lp } = au ∧
    out.2.toReal =
      max (-1) (min 1 (((dir : ℝ) + fout) * ((mode.toNat &&& 0x0F : ℕ) : ℝ) / (15 * 3 * 2048 * 255)))

/-- The oscillator: the phase after n cycles, the test bit, the noise register's clock and output, the sync resets, ring
modulation and the waveforms (R560 to R564). The envelope: the rate table, the gate edge, the attack ramp, and the steps of
decay and release (R558, R566, R568). -/
def Obligations.OscillatorAndEnvelope : Prop :=
  (∀ (ctl : Byte) (freq : BitVec 16) (ch : Channel),
    let acc : BitVec 24 := BitVec.ofNat 24 (ch.acc.toNat + freq.toNat)
    let noise : BitVec 23 := (ch.lfsr <<< 1) ||| BitVec.ofNat 23 (ch.lfsr.getLsbD 22 ^^ ch.lfsr.getLsbD 17).toNat
    (ctl.getLsbD 3 = true → clockOsc ctl freq ch = ({ ch with acc := 0, lfsr := 0x7FFFF8 }, false)) ∧
    (ctl.getLsbD 3 = false →
      clockOsc ctl freq ch =
        ({ ch with
            acc := acc
            lfsr := if ch.acc.getLsbD 19 = false ∧ acc.getLsbD 19 = true then noise else ch.lfsr },
          !ch.acc.getLsbD 23 && acc.getLsbD 23) ∧
      ∀ n : Nat, ((fun c => (clockOsc ctl freq c).1)^[n] ch).acc = BitVec.ofNat 24 (ch.acc.toNat + n * freq.toNat))) ∧
  (∀ (l : BitVec 23) (k : Nat), k < 8 →
    (noiseOut l).getLsbD k = l.getLsbD ([2, 4, 7, 11, 13, 16, 20, 22].getD k 0)) ∧
  (∀ (sh : Memory) (au : Audio),
    let c0 := clockChannel sh 0 au.ch0
    let c1 := clockChannel sh 1 au.ch1
    let c2 := clockChannel sh 2 au.ch2
    let synced (rose : Bool) (j : Nat) (ch : Channel) : Channel :=
      if rose = true ∧ (sh.read (0x404 + 7 * j)).getLsbD 1 = true then { ch with acc := 0 } else ch
    clockChannels sh au =
      { au with ch0 := synced c2.2 0 c0.1, ch1 := synced c0.2 1 c1.1, ch2 := synced c1.2 2 c2.1 }) ∧
  (∀ (p : Params) (ctl : Byte) (pw : BitVec 12) (ch ring : Channel),
    let msb := if ctl.getLsbD 2 then ch.acc.getLsbD 23 ^^ ring.acc.getLsbD 23 else ch.acc.getLsbD 23
    let saw : BitVec 12 := BitVec.ofNat 12 (ch.acc.toNat >>> 12)
    let triangle : BitVec 12 := BitVec.ofNat 12 ((if msb then 2 ^ 24 - 1 - ch.acc.toNat else ch.acc.toNat) >>> 11)
    let pulse : BitVec 12 := if ctl.getLsbD 3 = true ∨ pw.toNat ≤ ch.acc.toNat >>> 12 then 0xFFF else 0x000
    let noise : BitVec 12 := BitVec.ofNat 12 ((noiseOut ch.lfsr).toNat <<< 4)
    let wave := waveOf p ctl pw ch ring
    (ctl.toNat / 16 = 1 → wave = triangle) ∧ (ctl.toNat / 16 = 2 → wave = saw) ∧ (ctl.toNat / 16 = 4 → wave = pulse) ∧
    (ctl.toNat / 16 = 8 → wave = noise) ∧
    (ctl.toNat / 16 ∉ [0, 1, 2, 4, 8] →
      (p.combinedWave = .bitwiseAnd → ∀ k < 12,
        wave.getLsbD k =
          ((!ctl.getLsbD 4 || triangle.getLsbD k) && (!ctl.getLsbD 5 || saw.getLsbD k) &&
            (!ctl.getLsbD 6 || pulse.getLsbD k) && (!ctl.getLsbD 7 || noise.getLsbD k))) ∧
      (p.combinedWave = .host → wave = Config.combinedWave ctl triangle saw pulse noise))) ∧
  ((List.range 16).map ratePeriod =
    [9, 32, 63, 95, 149, 220, 267, 313] ++ [392, 977, 1954, 3126, 3907, 11720, 19532, 31251]) ∧
  (∀ (ctl : Byte) (ch : Channel),
    (ctl.getLsbD 0 = true → ch.gatePrev = false →
      gateEdge ctl ch = { ch with adsr := .attack, gatePrev := true }) ∧
    (ctl.getLsbD 0 = false → ch.gatePrev = true →
      gateEdge ctl ch = { ch with adsr := .release, gatePrev := false }) ∧
    (ctl.getLsbD 0 = ch.gatePrev → gateEdge ctl ch = ch)) ∧
  ∀ (sh : Memory) (i : Nat) (ch : Channel),
    let ad := (sh.read (0x405 + 7 * i)).toNat
    let sr := (sh.read (0x406 + 7 * i)).toNat
    let e := ch.env.toNat
    let divider : Nat := if e > 0x5D then 1 else if e > 0x36 then 2 else if e > 0x1A then 4 else if e > 0x0E then 8
      else if e > 0x06 then 16 else 30
    let after (cycles : Nat) : Channel := (clockEnv sh i)^[cycles] ch
    (ch.adsr = .attack → ch.rateCtr = 0 →
      (ch.env = 0 → ∀ k, 0 < k → k ≤ 255 →
        after (k * ratePeriod (ad / 16)) =
          { ch with env := BitVec.ofNat 8 k, adsr := if k = 255 then .decaySustain else .attack }) ∧
      (ch.env = 0xFF → after (ratePeriod (ad / 16)) = { ch with adsr := .decaySustain })) ∧
    (ch.adsr = .decaySustain → ch.rateCtr = 0 → ch.expCtr = 0 →
      after (divider * ratePeriod (ad % 16)) = if sr / 16 * 0x11 < e then { ch with env := ch.env - 1 } else ch) ∧
    (ch.adsr = .release → ch.rateCtr = 0 → ch.expCtr = 0 →
      after (divider * ratePeriod (sr % 16)) = if 0 < e then { ch with env := ch.env - 1 } else ch)

/-- A flush renders the cycles since the last one, at a frame's end as many as RATE_POLICY says; the policy's bounds; and the
consumer's request, with the held sample and the underrun report (R552, R578, R582). MODEL'S CHOICE: the target band as one
interval of queue lengths, from rateBandLow to rateBandHigh, and the host's law around it (log entry 14). -/
def Obligations.FlushAndConsume : Prop :=
  (∀ (p : Params) (sh : Memory) (now : Nat) (frameEnd : Bool) (au : Audio),
    let n := now - au.lastCycle
    flushAudio p sh now frameEnd au =
      bufferSamples p sh (if frameEnd then rateCycles p.ratePolicy n au.queue.length else n)
        { au with lastCycle := now }) ∧
  (∀ n len : Nat,
    rateCycles .identity n len = n ∧ (len ≤ rateBandHigh → n ≤ rateCycles .host n len) ∧
    (Config.rateBandLow ≤ len → rateCycles .host n len ≤ n) ∧
    (Config.rateBandLow ≤ len → len ≤ rateBandHigh → rateCycles .host n len = n)) ∧
  (∀ (k : Nat) (au : Audio),
    let out := consumeSamples k au
    out.1.length = k ∧ out.1.take au.queue.length = au.queue.take k ∧
    (∀ j, au.queue.length ≤ j → j < k → out.1[j]? = some (au.queue.getLastD au.lastOut)) ∧
    out.2 =
      { au with
        queue := au.queue.drop k
        lastOut := out.1.getLastD au.lastOut
        underruns := au.underruns + if au.queue.length < k then 1 else 0 })

end
end

