-- ==== Sys2Proof/Laws/Audio.lean ====
section
/-!
SUPPORT. Laws/Audio.lean: what the audio unit's shared functions can do: the operations on terms mean the operations on the
reals, the filter step and the sample, and the cadence of a rendered cycle.
-/

namespace Sys2Proof.Machine

namespace RealTerm

@[simp] theorem toReal_rat (r : Rat) : (rat r).toReal = r := rfl

@[simp] theorem toReal_sqrtTwo : sqrtTwo.toReal = Real.sqrt 2 := rfl

@[simp] theorem toReal_add (a b : RealTerm) : (add a b).toReal = a.toReal + b.toReal := by
  unfold add
  split <;> (try split) <;> simp_all [toReal]

@[simp] theorem toReal_scale (x : Rat) (a : RealTerm) : (scale x a).toReal = x * a.toReal := by
  unfold scale
  split <;> (try split) <;> (try split) <;> simp_all [toReal]

@[simp] theorem toReal_mul (a b : RealTerm) : (mul a b).toReal = a.toReal * b.toReal := by
  unfold mul
  split <;> simp [toReal, mul_comm]

@[simp] theorem toReal_sub (a b : RealTerm) : (sub a b).toReal = a.toReal - b.toReal := by
  simp [sub, sub_eq_add_neg]

@[simp] theorem toReal_clampUnit (a : RealTerm) : (clampUnit a).toReal = max (-1) (min 1 a.toReal) := by
  unfold clampUnit
  split
  · rename_i r
    simp only [toReal_rat, clampRat]
    split_ifs with h1 h2
    · have : (r : ℝ) < -1 := by exact_mod_cast h1
      rw [min_eq_right (by linarith), max_eq_left this.le]
      norm_num
    · have : (1 : ℝ) < r := by exact_mod_cast h2
      rw [min_eq_left this.le]
      norm_num
    · have h1' : (-1 : ℝ) ≤ r := by exact_mod_cast not_lt.1 h1
      have h2' : (r : ℝ) ≤ 1 := by exact_mod_cast not_lt.1 h2
      rw [min_eq_right h2', max_eq_right h1']
  · rfl

end RealTerm

/-- The filter's update, on the reals its terms stand for (R574). -/
theorem filterStep_toReal (f q fin lp bp : RealTerm) :
    let out := filterStep f q fin lp bp
    let hp := fin.toReal - lp.toReal - q.toReal * bp.toReal
    let bp' := bp.toReal + f.toReal * hp
    out.1.toReal = bp' ∧ out.2.1.toReal = lp.toReal + f.toReal * bp' ∧ out.2.2.toReal = hp := by
  simp [filterStep]

/-- A sample, on the real number it stands for (R576). -/
theorem normalise_toReal (v : RealTerm) (vol : Nat) :
    (normalise v vol).toReal = max (-1) (min 1 (v.toReal * vol / (15 * 3 * 2048 * 255))) := by
  simp only [normalise, RealTerm.toReal_clampUnit, RealTerm.toReal_scale]
  push_cast
  congr 2
  ring

/-- The coefficient `f` is the formula's, exactly (R574). -/
theorem formulaF_toReal (rate fc : Nat) (h : 0 < rate) :
    (formulaF rate fc).toReal =
      2 * Real.sin (Real.pi * min (30 * (400 : ℝ) ^ ((fc : ℝ) / 2047)) ((rate : ℝ) / 6) / rate) := by
  unfold formulaF
  split
  · rename_i hle
    have hr : (rate : ℝ) ≤ 180 * (400 : ℝ) ^ ((fc : ℝ) / 2047) := by
      have : ((rate : ℝ)) ^ 2047 ≤ (180 * (400 : ℝ) ^ ((fc : ℝ) / 2047)) ^ 2047 := by
        rw [mul_pow, ← Real.rpow_natCast ((400:ℝ) ^ _), ← Real.rpow_mul (by norm_num)]
        have e : ((fc : ℝ) / 2047 * ((2047 : ℕ) : ℝ)) = (fc : ℝ) := by
          push_cast
          field_simp
        rw [e, Real.rpow_natCast]
        exact_mod_cast hle
      exact le_of_pow_le_pow_left₀ (by norm_num) (by positivity) this
    rw [min_eq_right (by linarith)]
    have : (rate : ℝ) ≠ 0 := by positivity
    rw [show Real.pi * ((rate : ℝ) / 6) / rate = Real.pi / 6 by field_simp, Real.sin_pi_div_six]
    simp
  · rfl

/-- The coefficient `q` is the formula's, exactly (R574). -/
theorem formulaQ_toReal (res : Nat) : (formulaQ res).toReal = Real.sqrt 2 - res * (Real.sqrt 2 - 0.1) / 15 := by
  simp only [formulaQ, RealTerm.toReal_add, RealTerm.toReal_scale, RealTerm.toReal_sqrtTwo, RealTerm.toReal_rat]
  push_cast
  ring

/-- A host's coefficients, as the machine uses them, are stable (R575). -/
theorem stableReal_hostCoeff (rate fc res : Nat) : StableReal (hostCoeff rate fc res).1 (hostCoeff rate fc res).2 := by
  unfold hostCoeff
  dsimp only
  split
  · assumption
  · norm_num [StableReal]

/-- One rendered cycle counts the cadence up by the sample rate and, with each sample, down by the clock (R556, R572). -/
theorem audioCycle_cadence (p : Params) (sh : Memory) (au : Audio) :
    (audioCycle p sh au).2.length * p.cpuClockHz + (audioCycle p sh au).1.sampleAcc = au.sampleAcc + p.sampleRateHz ∧
      (audioCycle p sh au).2.length ≤ 1 := by
  have hc : (clockChannels sh au).sampleAcc = au.sampleAcc := rfl
  simp only [audioCycle, hc]
  split
  · simp only [List.length_singleton, computeSample]
    omega
  · simp

end Sys2Proof.Machine
end

