-- ==== Sys2Proof/Laws/Memory.lean ====
section
/-!
SUPPORT. Laws/Memory.lean: the laws of a sparse byte array: what a read after a write gives, that every write keeps the
canonical form, and that two arrays in that form with the same bytes are equal.
-/

namespace Sys2Proof.Machine.Memory

/-- A lower bound on addresses, absent for a whole array. -/
def AboveBound : Option Nat → Nat → Prop
  | none, _ => True
  | some l, k => l < k

/-- The canonical form of an array with a first cell. -/
theorem wfAbove_cons (size : Nat) (lo : Option Nat) (k : Nat) (v : Byte) (m : Memory) :
    wfAbove size lo ((k, v) :: m) = true ↔
      AboveBound lo k ∧ k < size ∧ v ≠ blank ∧ wfAbove size (some k) m = true := by
  cases lo <;> simp [wfAbove, AboveBound, and_assoc]

@[simp] theorem wfAbove_nil (size : Nat) (lo : Option Nat) : wfAbove size lo [] = true := by
  simp [wfAbove]

@[simp] theorem wf_nil (size : Nat) : wf size [] = true := wfAbove_nil size none

@[simp] theorem read_nil (a : Nat) : read [] a = blank := by
  simp [read]

/-- A canonical array above a bound is canonical above a lower one. -/
theorem wfAbove_weaken {size : Nat} {lo hi : Option Nat} {m : Memory}
    (hb : ∀ k, AboveBound hi k → AboveBound lo k) (h : wfAbove size hi m = true) : wfAbove size lo m = true := by
  cases m with
  | nil => exact wfAbove_nil size lo
  | cons c m =>
    rw [wfAbove_cons] at h ⊢
    exact ⟨hb _ h.1, h.2⟩

/-- A byte at or below a canonical array's bound is not listed. -/
theorem read_below {size l : Nat} {m : Memory} (h : wfAbove size (some l) m = true) {a : Nat} (ha : a ≤ l) :
    read m a = blank := by
  cases m with
  | nil => exact read_nil a
  | cons c m =>
    obtain ⟨hk, -⟩ := (wfAbove_cons ..).1 h
    have : l < c.1 := hk
    simp [read, show a ≠ c.1 by omega, show a < c.1 by omega]

/-- A byte past the end of a canonical array is not listed. -/
theorem read_outside {size : Nat} {lo : Option Nat} {m : Memory} (h : wfAbove size lo m = true) {a : Nat}
    (ha : size ≤ a) : read m a = blank := by
  induction m generalizing lo with
  | nil => exact read_nil a
  | cons c m ih =>
    obtain ⟨-, hk, -, ht⟩ := (wfAbove_cons ..).1 h
    simp [read, show a ≠ c.1 by omega, show ¬ a < c.1 by omega, ih ht]

/-- `consCell` in front of an array whose addresses are above a. -/
theorem wfAbove_consCell {size : Nat} {lo : Option Nat} {a : Nat} {v : Byte} {m : Memory}
    (hlo : AboveBound lo a) (ha : a < size) (h : wfAbove size (some a) m = true) :
    wfAbove size lo (consCell a v m) = true := by
  unfold consCell
  split
  · refine wfAbove_weaken (fun k hk => ?_) h
    cases lo with
    | none => trivial
    | some l => exact Nat.lt_trans hlo hk
  · exact (wfAbove_cons ..).2 ⟨hlo, ha, ‹_›, h⟩

/-- A write keeps the canonical form above any bound below its address. -/
theorem wfAbove_write {size : Nat} {lo : Option Nat} {m : Memory} {a : Nat} {v : Byte}
    (h : wfAbove size lo m = true) (hlo : AboveBound lo a) (ha : a < size) : wfAbove size lo (write m a v) = true := by
  induction m generalizing lo with
  | nil => exact wfAbove_consCell hlo ha (wfAbove_nil ..)
  | cons c m ih =>
    obtain ⟨hk, hs, hv, ht⟩ := (wfAbove_cons ..).1 h
    simp only [write]
    split
    · subst_vars
      exact wfAbove_consCell hlo ha ht
    · split
      · exact wfAbove_consCell hlo ha ((wfAbove_cons ..).2 ⟨‹_›, hs, hv, ht⟩)
      · exact (wfAbove_cons ..).2 ⟨hk, hs, hv, ih ht (show c.1 < a by omega)⟩

/-- A write keeps the canonical form. -/
theorem wf_write {size : Nat} {m : Memory} {a : Nat} {v : Byte} (h : wf size m = true) (ha : a < size) :
    wf size (write m a v) = true :=
  wfAbove_write h trivial ha

/-- Writes made in order keep the canonical form. -/
theorem wf_writeAll {size : Nat} {ws : List (Nat × Byte)} {m : Memory} (h : wf size m = true)
    (hw : ∀ w ∈ ws, w.1 < size) : wf size (writeAll m ws) = true := by
  induction ws generalizing m with
  | nil => exact h
  | cons w ws ih => exact ih (wf_write h (hw w (by simp))) fun w' hw' => hw w' (by simp [hw'])

/-- Reading a cell put in front of an array whose addresses are above it. -/
theorem read_consCell {size a : Nat} {v : Byte} {m : Memory} (h : wfAbove size (some a) m = true) (b : Nat) :
    read (consCell a v m) b = if b = a then v else if b < a then blank else read m b := by
  unfold consCell
  split
  · subst_vars
    split
    · rw [read_below h (by omega)]
    · split
      · rw [read_below h (by omega)]
      · rfl
  · simp [read]

/-- A canonical array of some size is one of any larger size. -/
theorem wfAbove_mono {size size' : Nat} (hs : size ≤ size') {lo : Option Nat} {m : Memory}
    (h : wfAbove size lo m = true) : wfAbove size' lo m = true := by
  induction m generalizing lo with
  | nil => exact wfAbove_nil ..
  | cons c m ih =>
    obtain ⟨h1, h2, h3, h4⟩ := (wfAbove_cons ..).1 h
    exact (wfAbove_cons ..).2 ⟨h1, by omega, h3, ih h4⟩

/-- A byte read after a write: the byte written at its address, the byte before anywhere else. -/
theorem read_write_of_wfAbove {size : Nat} {lo : Option Nat} {m : Memory} (h : wfAbove size lo m = true) (a b : Nat)
    (v : Byte) : read (write m a v) b = if b = a then v else read m b := by
  induction m generalizing lo with
  | nil =>
    simp only [write, read_nil, consCell]
    split <;> simp only [read] <;> grind
  | cons c m ih =>
    obtain ⟨hk, hs, hv, ht⟩ := (wfAbove_cons ..).1 h
    simp only [write]
    split
    · rw [read_consCell (by subst_vars; exact ht)]
      simp only [read]
      grind
    · split
      · rw [read_consCell ((wfAbove_cons ..).2 ⟨‹_›, hs, hv, ht⟩)]
        simp only [read]
        grind
      · simp only [read, ih ht]
        grind

/-- `read_write_of_wfAbove` for a whole array. -/
theorem read_write {size : Nat} {m : Memory} (h : wf size m = true) (a b : Nat) (v : Byte) :
    read (write m a v) b = if b = a then v else read m b :=
  read_write_of_wfAbove h a b v

/-- A read of the address just written gives the byte written. -/
theorem read_write_same {size : Nat} {m : Memory} (h : wf size m = true) (a : Nat) (v : Byte) :
    read (write m a v) a = v := by
  rw [read_write h, if_pos rfl]

/-- A write leaves every other address as it was. -/
theorem read_write_other {size : Nat} {m : Memory} (h : wf size m = true) {a b : Nat} (hab : b ≠ a) (v : Byte) :
    read (write m a v) b = read m b := by
  rw [read_write h, if_neg hab]

/-- Two canonical arrays above bounds with the same bytes are equal. -/
theorem ext_above {size : Nat} {lo lo' : Option Nat} {m m' : Memory} (h : wfAbove size lo m = true)
    (h' : wfAbove size lo' m' = true) (he : ∀ a, read m a = read m' a) : m = m' := by
  induction m generalizing lo lo' m' with
  | nil =>
    cases m' with
    | nil => rfl
    | cons c m' =>
      obtain ⟨-, -, hv, -⟩ := (wfAbove_cons ..).1 h'
      have := he c.1
      simp [read] at this
      exact absurd this.symm hv
  | cons c m ih =>
    obtain ⟨-, -, hv, ht⟩ := (wfAbove_cons ..).1 h
    cases m' with
    | nil =>
      have := he c.1
      simp [read] at this
      exact absurd this hv
    | cons d m' =>
      obtain ⟨-, -, hv', ht'⟩ := (wfAbove_cons ..).1 h'
      have hc := he c.1
      have hd := he d.1
      have hk : c.1 = d.1 := by
        simp only [read, if_true] at hc hd
        grind
      have hvv : c.2 = d.2 := by
        simp only [read, hk, if_true] at hc
        exact hc
      have htail : m = m' := by
        refine ih ht ht' fun a => ?_
        have ha := he a
        simp only [read, hk] at ha
        by_cases h1 : a ≤ d.1
        · rw [read_below ht (by omega), read_below ht' h1]
        · rw [if_neg (by omega), if_neg (by omega), if_neg (by omega), if_neg (by omega)] at ha
          exact ha
      obtain ⟨c1, c2⟩ := c
      obtain ⟨d1, d2⟩ := d
      simp_all

/-- The canonical form is canonical: two arrays in it with the same bytes are the same data. -/
theorem ext_of_wf {size : Nat} {m m' : Memory} (h : wf size m = true) (h' : wf size m' = true)
    (he : ∀ a, read m a = read m' a) : m = m' :=
  ext_above h h' he

/-- Writing the byte that is there already changes nothing. -/
theorem write_read {size : Nat} {m : Memory} (h : wf size m = true) {a : Nat} (ha : a < size) :
    write m a (read m a) = m := by
  refine ext_of_wf (wf_write h ha) h fun b => ?_
  rw [read_write h]
  split <;> simp_all

/-- The second of two writes to one address stands. -/
theorem write_write {size : Nat} {m : Memory} (h : wf size m = true) {a : Nat} (ha : a < size) (v w : Byte) :
    write (write m a v) a w = write m a w := by
  refine ext_of_wf (wf_write (wf_write h ha) ha) (wf_write h ha) fun b => ?_
  rw [read_write (wf_write h ha), read_write h, read_write h]
  split <;> rfl

/-- Writes to two addresses commute. -/
theorem write_comm {size : Nat} {m : Memory} (h : wf size m = true) {a b : Nat} (ha : a < size) (hb : b < size)
    (hab : a ≠ b) (v w : Byte) : write (write m a v) b w = write (write m b w) a v := by
  refine ext_of_wf (wf_write (wf_write h ha) hb) (wf_write (wf_write h hb) ha) fun c => ?_
  rw [read_write (wf_write h ha), read_write h, read_write (wf_write h hb), read_write h]
  grind

end Sys2Proof.Machine.Memory
end

