-- ==== Sys2Proof/Laws/State.lean ====
section
/-!
SUPPORT. Laws/State.lean: for each named update of the state, every field after it.
-/

namespace Sys2Proof.Machine

/-- Every field after `addCycles`. -/
@[simp] theorem addCycles_fields (n : Nat) (s : State) :
    (s.addCycles n).a = s.a ∧ (s.addCycles n).x = s.x ∧ (s.addCycles n).y = s.y ∧ (s.addCycles n).sp = s.sp ∧
    (s.addCycles n).pc = s.pc ∧ (s.addCycles n).flags = s.flags ∧ (s.addCycles n).cycles = s.cycles + n ∧
    (s.addCycles n).mode = s.mode ∧ (s.addCycles n).resetPending = s.resetPending ∧
    (s.addCycles n).nmiPending = s.nmiPending ∧ (s.addCycles n).irqPending = s.irqPending ∧
    (s.addCycles n).ram = s.ram ∧ (s.addCycles n).shadow = s.shadow ∧ (s.addCycles n).line = s.line ∧
    (s.addCycles n).lineTarget = s.lineTarget ∧ (s.addCycles n).rasterLatched = s.rasterLatched ∧
    (s.addCycles n).timerLatched = s.timerLatched ∧ (s.addCycles n).timerLatch = s.timerLatch ∧
    (s.addCycles n).timerCounter = s.timerCounter ∧ (s.addCycles n).icrMask = s.icrMask ∧
    (s.addCycles n).video = s.video ∧ (s.addCycles n).audio = s.audio ∧ (s.addCycles n).phase = s.phase ∧
    (s.addCycles n).frameRequests = s.frameRequests ∧ (s.addCycles n).hostActions = s.hostActions ∧
    (s.addCycles n).events = s.events ∧ (s.addCycles n).draws = s.draws ∧ (s.addCycles n).params = s.params :=
  ⟨rfl, rfl, rfl, rfl, rfl, rfl, rfl, rfl, rfl, rfl, rfl, rfl, rfl, rfl, rfl, rfl, rfl, rfl, rfl, rfl, rfl, rfl, rfl, rfl, rfl, rfl, rfl, rfl⟩

/-- Every field after `record`. -/
@[simp] theorem record_fields (e : Event) (s : State) :
    (s.record e).a = s.a ∧ (s.record e).x = s.x ∧ (s.record e).y = s.y ∧ (s.record e).sp = s.sp ∧
    (s.record e).pc = s.pc ∧ (s.record e).flags = s.flags ∧ (s.record e).cycles = s.cycles ∧
    (s.record e).mode = s.mode ∧ (s.record e).resetPending = s.resetPending ∧
    (s.record e).nmiPending = s.nmiPending ∧ (s.record e).irqPending = s.irqPending ∧ (s.record e).ram = s.ram ∧
    (s.record e).shadow = s.shadow ∧ (s.record e).line = s.line ∧ (s.record e).lineTarget = s.lineTarget ∧
    (s.record e).rasterLatched = s.rasterLatched ∧ (s.record e).timerLatched = s.timerLatched ∧
    (s.record e).timerLatch = s.timerLatch ∧ (s.record e).timerCounter = s.timerCounter ∧
    (s.record e).icrMask = s.icrMask ∧ (s.record e).video = s.video ∧ (s.record e).audio = s.audio ∧
    (s.record e).phase = s.phase ∧ (s.record e).frameRequests = s.frameRequests ∧
    (s.record e).hostActions = s.hostActions ∧ (s.record e).events = e :: s.events ∧ (s.record e).draws = s.draws ∧
    (s.record e).params = s.params :=
  ⟨rfl, rfl, rfl, rfl, rfl, rfl, rfl, rfl, rfl, rfl, rfl, rfl, rfl, rfl, rfl, rfl, rfl, rfl, rfl, rfl, rfl, rfl, rfl, rfl, rfl, rfl, rfl, rfl⟩

/-- Every field after `storeRam`. -/
@[simp] theorem storeRam_fields (a : Addr) (v : Byte) (s : State) :
    (storeRam a v s).a = s.a ∧ (storeRam a v s).x = s.x ∧ (storeRam a v s).y = s.y ∧ (storeRam a v s).sp = s.sp ∧
    (storeRam a v s).pc = s.pc ∧ (storeRam a v s).flags = s.flags ∧ (storeRam a v s).cycles = s.cycles ∧
    (storeRam a v s).mode = s.mode ∧ (storeRam a v s).resetPending = s.resetPending ∧
    (storeRam a v s).nmiPending = s.nmiPending ∧ (storeRam a v s).irqPending = s.irqPending ∧
    (storeRam a v s).ram = s.ram.write a.toNat v ∧ (storeRam a v s).shadow = s.shadow ∧
    (storeRam a v s).line = s.line ∧ (storeRam a v s).lineTarget = s.lineTarget ∧
    (storeRam a v s).rasterLatched = s.rasterLatched ∧ (storeRam a v s).timerLatched = s.timerLatched ∧
    (storeRam a v s).timerLatch = s.timerLatch ∧ (storeRam a v s).timerCounter = s.timerCounter ∧
    (storeRam a v s).icrMask = s.icrMask ∧ (storeRam a v s).video = s.video ∧ (storeRam a v s).audio = s.audio ∧
    (storeRam a v s).phase = s.phase ∧ (storeRam a v s).frameRequests = s.frameRequests ∧
    (storeRam a v s).hostActions = s.hostActions ∧ (storeRam a v s).events = s.events ∧
    (storeRam a v s).draws = s.draws ∧ (storeRam a v s).params = s.params :=
  ⟨rfl, rfl, rfl, rfl, rfl, rfl, rfl, rfl, rfl, rfl, rfl, rfl, rfl, rfl, rfl, rfl, rfl, rfl, rfl, rfl, rfl, rfl, rfl, rfl, rfl, rfl, rfl, rfl⟩

/-- Every field after `storeShadow`. -/
@[simp] theorem storeShadow_fields (a : Addr) (v : Byte) (s : State) :
    (storeShadow a v s).a = s.a ∧ (storeShadow a v s).x = s.x ∧ (storeShadow a v s).y = s.y ∧
    (storeShadow a v s).sp = s.sp ∧ (storeShadow a v s).pc = s.pc ∧ (storeShadow a v s).flags = s.flags ∧
    (storeShadow a v s).cycles = s.cycles ∧ (storeShadow a v s).mode = s.mode ∧
    (storeShadow a v s).resetPending = s.resetPending ∧ (storeShadow a v s).nmiPending = s.nmiPending ∧
    (storeShadow a v s).irqPending = s.irqPending ∧ (storeShadow a v s).ram = s.ram ∧
    (storeShadow a v s).shadow = s.shadow.write (shadowOffset a) v ∧ (storeShadow a v s).line = s.line ∧
    (storeShadow a v s).lineTarget = s.lineTarget ∧ (storeShadow a v s).rasterLatched = s.rasterLatched ∧
    (storeShadow a v s).timerLatched = s.timerLatched ∧ (storeShadow a v s).timerLatch = s.timerLatch ∧
    (storeShadow a v s).timerCounter = s.timerCounter ∧ (storeShadow a v s).icrMask = s.icrMask ∧
    (storeShadow a v s).video = s.video ∧ (storeShadow a v s).audio = s.audio ∧ (storeShadow a v s).phase = s.phase ∧
    (storeShadow a v s).frameRequests = s.frameRequests ∧ (storeShadow a v s).hostActions = s.hostActions ∧
    (storeShadow a v s).events = s.events ∧ (storeShadow a v s).draws = s.draws ∧
    (storeShadow a v s).params = s.params :=
  ⟨rfl, rfl, rfl, rfl, rfl, rfl, rfl, rfl, rfl, rfl, rfl, rfl, rfl, rfl, rfl, rfl, rfl, rfl, rfl, rfl, rfl, rfl, rfl, rfl, rfl, rfl, rfl, rfl⟩

/-- Every field after `setZN`. -/
@[simp] theorem setZN_fields (v : Byte) (s : State) :
    (setZN v s).a = s.a ∧ (setZN v s).x = s.x ∧ (setZN v s).y = s.y ∧ (setZN v s).sp = s.sp ∧ (setZN v s).pc = s.pc ∧
    (setZN v s).flags = { s.flags with z := v == 0, n := v.getLsbD 7 } ∧ (setZN v s).cycles = s.cycles ∧
    (setZN v s).mode = s.mode ∧ (setZN v s).resetPending = s.resetPending ∧ (setZN v s).nmiPending = s.nmiPending ∧
    (setZN v s).irqPending = s.irqPending ∧ (setZN v s).ram = s.ram ∧ (setZN v s).shadow = s.shadow ∧
    (setZN v s).line = s.line ∧ (setZN v s).lineTarget = s.lineTarget ∧ (setZN v s).rasterLatched = s.rasterLatched ∧
    (setZN v s).timerLatched = s.timerLatched ∧ (setZN v s).timerLatch = s.timerLatch ∧
    (setZN v s).timerCounter = s.timerCounter ∧ (setZN v s).icrMask = s.icrMask ∧ (setZN v s).video = s.video ∧
    (setZN v s).audio = s.audio ∧ (setZN v s).phase = s.phase ∧ (setZN v s).frameRequests = s.frameRequests ∧
    (setZN v s).hostActions = s.hostActions ∧ (setZN v s).events = s.events ∧ (setZN v s).draws = s.draws ∧
    (setZN v s).params = s.params :=
  ⟨rfl, rfl, rfl, rfl, rfl, rfl, rfl, rfl, rfl, rfl, rfl, rfl, rfl, rfl, rfl, rfl, rfl, rfl, rfl, rfl, rfl, rfl, rfl, rfl, rfl, rfl, rfl, rfl⟩

/-- Every field after `setA`. -/
@[simp] theorem setA_fields (v : Byte) (s : State) :
    (setA v s).a = v ∧ (setA v s).x = s.x ∧ (setA v s).y = s.y ∧ (setA v s).sp = s.sp ∧ (setA v s).pc = s.pc ∧
    (setA v s).flags = { s.flags with z := v == 0, n := v.getLsbD 7 } ∧ (setA v s).cycles = s.cycles ∧
    (setA v s).mode = s.mode ∧ (setA v s).resetPending = s.resetPending ∧ (setA v s).nmiPending = s.nmiPending ∧
    (setA v s).irqPending = s.irqPending ∧ (setA v s).ram = s.ram ∧ (setA v s).shadow = s.shadow ∧
    (setA v s).line = s.line ∧ (setA v s).lineTarget = s.lineTarget ∧ (setA v s).rasterLatched = s.rasterLatched ∧
    (setA v s).timerLatched = s.timerLatched ∧ (setA v s).timerLatch = s.timerLatch ∧
    (setA v s).timerCounter = s.timerCounter ∧ (setA v s).icrMask = s.icrMask ∧ (setA v s).video = s.video ∧
    (setA v s).audio = s.audio ∧ (setA v s).phase = s.phase ∧ (setA v s).frameRequests = s.frameRequests ∧
    (setA v s).hostActions = s.hostActions ∧ (setA v s).events = s.events ∧ (setA v s).draws = s.draws ∧
    (setA v s).params = s.params :=
  ⟨rfl, rfl, rfl, rfl, rfl, rfl, rfl, rfl, rfl, rfl, rfl, rfl, rfl, rfl, rfl, rfl, rfl, rfl, rfl, rfl, rfl, rfl, rfl, rfl, rfl, rfl, rfl, rfl⟩

/-- Every field after `setX`. -/
@[simp] theorem setX_fields (v : Byte) (s : State) :
    (setX v s).a = s.a ∧ (setX v s).x = v ∧ (setX v s).y = s.y ∧ (setX v s).sp = s.sp ∧ (setX v s).pc = s.pc ∧
    (setX v s).flags = { s.flags with z := v == 0, n := v.getLsbD 7 } ∧ (setX v s).cycles = s.cycles ∧
    (setX v s).mode = s.mode ∧ (setX v s).resetPending = s.resetPending ∧ (setX v s).nmiPending = s.nmiPending ∧
    (setX v s).irqPending = s.irqPending ∧ (setX v s).ram = s.ram ∧ (setX v s).shadow = s.shadow ∧
    (setX v s).line = s.line ∧ (setX v s).lineTarget = s.lineTarget ∧ (setX v s).rasterLatched = s.rasterLatched ∧
    (setX v s).timerLatched = s.timerLatched ∧ (setX v s).timerLatch = s.timerLatch ∧
    (setX v s).timerCounter = s.timerCounter ∧ (setX v s).icrMask = s.icrMask ∧ (setX v s).video = s.video ∧
    (setX v s).audio = s.audio ∧ (setX v s).phase = s.phase ∧ (setX v s).frameRequests = s.frameRequests ∧
    (setX v s).hostActions = s.hostActions ∧ (setX v s).events = s.events ∧ (setX v s).draws = s.draws ∧
    (setX v s).params = s.params :=
  ⟨rfl, rfl, rfl, rfl, rfl, rfl, rfl, rfl, rfl, rfl, rfl, rfl, rfl, rfl, rfl, rfl, rfl, rfl, rfl, rfl, rfl, rfl, rfl, rfl, rfl, rfl, rfl, rfl⟩

/-- Every field after `setY`. -/
@[simp] theorem setY_fields (v : Byte) (s : State) :
    (setY v s).a = s.a ∧ (setY v s).x = s.x ∧ (setY v s).y = v ∧ (setY v s).sp = s.sp ∧ (setY v s).pc = s.pc ∧
    (setY v s).flags = { s.flags with z := v == 0, n := v.getLsbD 7 } ∧ (setY v s).cycles = s.cycles ∧
    (setY v s).mode = s.mode ∧ (setY v s).resetPending = s.resetPending ∧ (setY v s).nmiPending = s.nmiPending ∧
    (setY v s).irqPending = s.irqPending ∧ (setY v s).ram = s.ram ∧ (setY v s).shadow = s.shadow ∧
    (setY v s).line = s.line ∧ (setY v s).lineTarget = s.lineTarget ∧ (setY v s).rasterLatched = s.rasterLatched ∧
    (setY v s).timerLatched = s.timerLatched ∧ (setY v s).timerLatch = s.timerLatch ∧
    (setY v s).timerCounter = s.timerCounter ∧ (setY v s).icrMask = s.icrMask ∧ (setY v s).video = s.video ∧
    (setY v s).audio = s.audio ∧ (setY v s).phase = s.phase ∧ (setY v s).frameRequests = s.frameRequests ∧
    (setY v s).hostActions = s.hostActions ∧ (setY v s).events = s.events ∧ (setY v s).draws = s.draws ∧
    (setY v s).params = s.params :=
  ⟨rfl, rfl, rfl, rfl, rfl, rfl, rfl, rfl, rfl, rfl, rfl, rfl, rfl, rfl, rfl, rfl, rfl, rfl, rfl, rfl, rfl, rfl, rfl, rfl, rfl, rfl, rfl, rfl⟩

/-- Every field after `setC`. -/
@[simp] theorem setC_fields (b : Bool) (s : State) :
    (setC b s).a = s.a ∧ (setC b s).x = s.x ∧ (setC b s).y = s.y ∧ (setC b s).sp = s.sp ∧ (setC b s).pc = s.pc ∧
    (setC b s).flags = { s.flags with c := b } ∧ (setC b s).cycles = s.cycles ∧ (setC b s).mode = s.mode ∧
    (setC b s).resetPending = s.resetPending ∧ (setC b s).nmiPending = s.nmiPending ∧
    (setC b s).irqPending = s.irqPending ∧ (setC b s).ram = s.ram ∧ (setC b s).shadow = s.shadow ∧
    (setC b s).line = s.line ∧ (setC b s).lineTarget = s.lineTarget ∧ (setC b s).rasterLatched = s.rasterLatched ∧
    (setC b s).timerLatched = s.timerLatched ∧ (setC b s).timerLatch = s.timerLatch ∧
    (setC b s).timerCounter = s.timerCounter ∧ (setC b s).icrMask = s.icrMask ∧ (setC b s).video = s.video ∧
    (setC b s).audio = s.audio ∧ (setC b s).phase = s.phase ∧ (setC b s).frameRequests = s.frameRequests ∧
    (setC b s).hostActions = s.hostActions ∧ (setC b s).events = s.events ∧ (setC b s).draws = s.draws ∧
    (setC b s).params = s.params :=
  ⟨rfl, rfl, rfl, rfl, rfl, rfl, rfl, rfl, rfl, rfl, rfl, rfl, rfl, rfl, rfl, rfl, rfl, rfl, rfl, rfl, rfl, rfl, rfl, rfl, rfl, rfl, rfl, rfl⟩

/-- Every field after `setP`. -/
@[simp] theorem setP_fields (v : Byte) (s : State) :
    (setP v s).a = s.a ∧ (setP v s).x = s.x ∧ (setP v s).y = s.y ∧ (setP v s).sp = s.sp ∧ (setP v s).pc = s.pc ∧
    (setP v s).flags = flagsOfP v ∧ (setP v s).cycles = s.cycles ∧ (setP v s).mode = s.mode ∧
    (setP v s).resetPending = s.resetPending ∧ (setP v s).nmiPending = s.nmiPending ∧
    (setP v s).irqPending = s.irqPending ∧ (setP v s).ram = s.ram ∧ (setP v s).shadow = s.shadow ∧
    (setP v s).line = s.line ∧ (setP v s).lineTarget = s.lineTarget ∧ (setP v s).rasterLatched = s.rasterLatched ∧
    (setP v s).timerLatched = s.timerLatched ∧ (setP v s).timerLatch = s.timerLatch ∧
    (setP v s).timerCounter = s.timerCounter ∧ (setP v s).icrMask = s.icrMask ∧ (setP v s).video = s.video ∧
    (setP v s).audio = s.audio ∧ (setP v s).phase = s.phase ∧ (setP v s).frameRequests = s.frameRequests ∧
    (setP v s).hostActions = s.hostActions ∧ (setP v s).events = s.events ∧ (setP v s).draws = s.draws ∧
    (setP v s).params = s.params :=
  ⟨rfl, rfl, rfl, rfl, rfl, rfl, rfl, rfl, rfl, rfl, rfl, rfl, rfl, rfl, rfl, rfl, rfl, rfl, rfl, rfl, rfl, rfl, rfl, rfl, rfl, rfl, rfl, rfl⟩

/-- Every field after `setI`. -/
@[simp] theorem setI_fields (s : State) :
    (setI s).a = s.a ∧ (setI s).x = s.x ∧ (setI s).y = s.y ∧ (setI s).sp = s.sp ∧ (setI s).pc = s.pc ∧
    (setI s).flags = { s.flags with i := true } ∧ (setI s).cycles = s.cycles ∧ (setI s).mode = s.mode ∧
    (setI s).resetPending = s.resetPending ∧ (setI s).nmiPending = s.nmiPending ∧
    (setI s).irqPending = s.irqPending ∧ (setI s).ram = s.ram ∧ (setI s).shadow = s.shadow ∧ (setI s).line = s.line ∧
    (setI s).lineTarget = s.lineTarget ∧ (setI s).rasterLatched = s.rasterLatched ∧
    (setI s).timerLatched = s.timerLatched ∧ (setI s).timerLatch = s.timerLatch ∧
    (setI s).timerCounter = s.timerCounter ∧ (setI s).icrMask = s.icrMask ∧ (setI s).video = s.video ∧
    (setI s).audio = s.audio ∧ (setI s).phase = s.phase ∧ (setI s).frameRequests = s.frameRequests ∧
    (setI s).hostActions = s.hostActions ∧ (setI s).events = s.events ∧ (setI s).draws = s.draws ∧
    (setI s).params = s.params :=
  ⟨rfl, rfl, rfl, rfl, rfl, rfl, rfl, rfl, rfl, rfl, rfl, rfl, rfl, rfl, rfl, rfl, rfl, rfl, rfl, rfl, rfl, rfl, rfl, rfl, rfl, rfl, rfl, rfl⟩

/-- What `addBinary` leaves as it was. -/
@[simp] theorem addBinary_frame (m : Byte) (s : State) :
    (addBinary m s).x = s.x ∧ (addBinary m s).y = s.y ∧ (addBinary m s).sp = s.sp ∧ (addBinary m s).pc = s.pc ∧
    (addBinary m s).cycles = s.cycles ∧ (addBinary m s).mode = s.mode ∧
    (addBinary m s).resetPending = s.resetPending ∧ (addBinary m s).nmiPending = s.nmiPending ∧
    (addBinary m s).irqPending = s.irqPending ∧ (addBinary m s).ram = s.ram ∧ (addBinary m s).shadow = s.shadow ∧
    (addBinary m s).line = s.line ∧ (addBinary m s).lineTarget = s.lineTarget ∧
    (addBinary m s).rasterLatched = s.rasterLatched ∧ (addBinary m s).timerLatched = s.timerLatched ∧
    (addBinary m s).timerLatch = s.timerLatch ∧ (addBinary m s).timerCounter = s.timerCounter ∧
    (addBinary m s).icrMask = s.icrMask ∧ (addBinary m s).video = s.video ∧ (addBinary m s).audio = s.audio ∧
    (addBinary m s).phase = s.phase ∧ (addBinary m s).frameRequests = s.frameRequests ∧
    (addBinary m s).hostActions = s.hostActions ∧ (addBinary m s).events = s.events ∧
    (addBinary m s).draws = s.draws ∧ (addBinary m s).params = s.params :=
  ⟨rfl, rfl, rfl, rfl, rfl, rfl, rfl, rfl, rfl, rfl, rfl, rfl, rfl, rfl, rfl, rfl, rfl, rfl, rfl, rfl, rfl, rfl, rfl, rfl, rfl, rfl⟩

/-- What `addDecimal` leaves as it was. -/
@[simp] theorem addDecimal_frame (m : Byte) (s : State) :
    (addDecimal m s).x = s.x ∧ (addDecimal m s).y = s.y ∧ (addDecimal m s).sp = s.sp ∧ (addDecimal m s).pc = s.pc ∧
    (addDecimal m s).cycles = s.cycles ∧ (addDecimal m s).mode = s.mode ∧
    (addDecimal m s).resetPending = s.resetPending ∧ (addDecimal m s).nmiPending = s.nmiPending ∧
    (addDecimal m s).irqPending = s.irqPending ∧ (addDecimal m s).ram = s.ram ∧ (addDecimal m s).shadow = s.shadow ∧
    (addDecimal m s).line = s.line ∧ (addDecimal m s).lineTarget = s.lineTarget ∧
    (addDecimal m s).rasterLatched = s.rasterLatched ∧ (addDecimal m s).timerLatched = s.timerLatched ∧
    (addDecimal m s).timerLatch = s.timerLatch ∧ (addDecimal m s).timerCounter = s.timerCounter ∧
    (addDecimal m s).icrMask = s.icrMask ∧ (addDecimal m s).video = s.video ∧ (addDecimal m s).audio = s.audio ∧
    (addDecimal m s).phase = s.phase ∧ (addDecimal m s).frameRequests = s.frameRequests ∧
    (addDecimal m s).hostActions = s.hostActions ∧ (addDecimal m s).events = s.events ∧
    (addDecimal m s).draws = s.draws ∧ (addDecimal m s).params = s.params :=
  ⟨rfl, rfl, rfl, rfl, rfl, rfl, rfl, rfl, rfl, rfl, rfl, rfl, rfl, rfl, rfl, rfl, rfl, rfl, rfl, rfl, rfl, rfl, rfl, rfl, rfl, rfl⟩

/-- What `subBinary` leaves as it was. -/
@[simp] theorem subBinary_frame (m : Byte) (s : State) :
    (subBinary m s).x = s.x ∧ (subBinary m s).y = s.y ∧ (subBinary m s).sp = s.sp ∧ (subBinary m s).pc = s.pc ∧
    (subBinary m s).cycles = s.cycles ∧ (subBinary m s).mode = s.mode ∧
    (subBinary m s).resetPending = s.resetPending ∧ (subBinary m s).nmiPending = s.nmiPending ∧
    (subBinary m s).irqPending = s.irqPending ∧ (subBinary m s).ram = s.ram ∧ (subBinary m s).shadow = s.shadow ∧
    (subBinary m s).line = s.line ∧ (subBinary m s).lineTarget = s.lineTarget ∧
    (subBinary m s).rasterLatched = s.rasterLatched ∧ (subBinary m s).timerLatched = s.timerLatched ∧
    (subBinary m s).timerLatch = s.timerLatch ∧ (subBinary m s).timerCounter = s.timerCounter ∧
    (subBinary m s).icrMask = s.icrMask ∧ (subBinary m s).video = s.video ∧ (subBinary m s).audio = s.audio ∧
    (subBinary m s).phase = s.phase ∧ (subBinary m s).frameRequests = s.frameRequests ∧
    (subBinary m s).hostActions = s.hostActions ∧ (subBinary m s).events = s.events ∧
    (subBinary m s).draws = s.draws ∧ (subBinary m s).params = s.params :=
  ⟨rfl, rfl, rfl, rfl, rfl, rfl, rfl, rfl, rfl, rfl, rfl, rfl, rfl, rfl, rfl, rfl, rfl, rfl, rfl, rfl, rfl, rfl, rfl, rfl, rfl, rfl⟩

/-- What `subDecimal` leaves as it was. -/
@[simp] theorem subDecimal_frame (m : Byte) (s : State) :
    (subDecimal m s).x = s.x ∧ (subDecimal m s).y = s.y ∧ (subDecimal m s).sp = s.sp ∧ (subDecimal m s).pc = s.pc ∧
    (subDecimal m s).cycles = s.cycles ∧ (subDecimal m s).mode = s.mode ∧
    (subDecimal m s).resetPending = s.resetPending ∧ (subDecimal m s).nmiPending = s.nmiPending ∧
    (subDecimal m s).irqPending = s.irqPending ∧ (subDecimal m s).ram = s.ram ∧ (subDecimal m s).shadow = s.shadow ∧
    (subDecimal m s).line = s.line ∧ (subDecimal m s).lineTarget = s.lineTarget ∧
    (subDecimal m s).rasterLatched = s.rasterLatched ∧ (subDecimal m s).timerLatched = s.timerLatched ∧
    (subDecimal m s).timerLatch = s.timerLatch ∧ (subDecimal m s).timerCounter = s.timerCounter ∧
    (subDecimal m s).icrMask = s.icrMask ∧ (subDecimal m s).video = s.video ∧ (subDecimal m s).audio = s.audio ∧
    (subDecimal m s).phase = s.phase ∧ (subDecimal m s).frameRequests = s.frameRequests ∧
    (subDecimal m s).hostActions = s.hostActions ∧ (subDecimal m s).events = s.events ∧
    (subDecimal m s).draws = s.draws ∧ (subDecimal m s).params = s.params :=
  ⟨rfl, rfl, rfl, rfl, rfl, rfl, rfl, rfl, rfl, rfl, rfl, rfl, rfl, rfl, rfl, rfl, rfl, rfl, rfl, rfl, rfl, rfl, rfl, rfl, rfl, rfl⟩

/-- What `arrBinary` leaves as it was. -/
@[simp] theorem arrBinary_frame (m : Byte) (s : State) :
    (arrBinary m s).x = s.x ∧ (arrBinary m s).y = s.y ∧ (arrBinary m s).sp = s.sp ∧ (arrBinary m s).pc = s.pc ∧
    (arrBinary m s).cycles = s.cycles ∧ (arrBinary m s).mode = s.mode ∧
    (arrBinary m s).resetPending = s.resetPending ∧ (arrBinary m s).nmiPending = s.nmiPending ∧
    (arrBinary m s).irqPending = s.irqPending ∧ (arrBinary m s).ram = s.ram ∧ (arrBinary m s).shadow = s.shadow ∧
    (arrBinary m s).line = s.line ∧ (arrBinary m s).lineTarget = s.lineTarget ∧
    (arrBinary m s).rasterLatched = s.rasterLatched ∧ (arrBinary m s).timerLatched = s.timerLatched ∧
    (arrBinary m s).timerLatch = s.timerLatch ∧ (arrBinary m s).timerCounter = s.timerCounter ∧
    (arrBinary m s).icrMask = s.icrMask ∧ (arrBinary m s).video = s.video ∧ (arrBinary m s).audio = s.audio ∧
    (arrBinary m s).phase = s.phase ∧ (arrBinary m s).frameRequests = s.frameRequests ∧
    (arrBinary m s).hostActions = s.hostActions ∧ (arrBinary m s).events = s.events ∧
    (arrBinary m s).draws = s.draws ∧ (arrBinary m s).params = s.params :=
  ⟨rfl, rfl, rfl, rfl, rfl, rfl, rfl, rfl, rfl, rfl, rfl, rfl, rfl, rfl, rfl, rfl, rfl, rfl, rfl, rfl, rfl, rfl, rfl, rfl, rfl, rfl⟩

/-- What `arrDecimal` leaves as it was. -/
@[simp] theorem arrDecimal_frame (m : Byte) (s : State) :
    (arrDecimal m s).x = s.x ∧ (arrDecimal m s).y = s.y ∧ (arrDecimal m s).sp = s.sp ∧ (arrDecimal m s).pc = s.pc ∧
    (arrDecimal m s).cycles = s.cycles ∧ (arrDecimal m s).mode = s.mode ∧
    (arrDecimal m s).resetPending = s.resetPending ∧ (arrDecimal m s).nmiPending = s.nmiPending ∧
    (arrDecimal m s).irqPending = s.irqPending ∧ (arrDecimal m s).ram = s.ram ∧ (arrDecimal m s).shadow = s.shadow ∧
    (arrDecimal m s).line = s.line ∧ (arrDecimal m s).lineTarget = s.lineTarget ∧
    (arrDecimal m s).rasterLatched = s.rasterLatched ∧ (arrDecimal m s).timerLatched = s.timerLatched ∧
    (arrDecimal m s).timerLatch = s.timerLatch ∧ (arrDecimal m s).timerCounter = s.timerCounter ∧
    (arrDecimal m s).icrMask = s.icrMask ∧ (arrDecimal m s).video = s.video ∧ (arrDecimal m s).audio = s.audio ∧
    (arrDecimal m s).phase = s.phase ∧ (arrDecimal m s).frameRequests = s.frameRequests ∧
    (arrDecimal m s).hostActions = s.hostActions ∧ (arrDecimal m s).events = s.events ∧
    (arrDecimal m s).draws = s.draws ∧ (arrDecimal m s).params = s.params :=
  ⟨rfl, rfl, rfl, rfl, rfl, rfl, rfl, rfl, rfl, rfl, rfl, rfl, rfl, rfl, rfl, rfl, rfl, rfl, rfl, rfl, rfl, rfl, rfl, rfl, rfl, rfl⟩

/-- What `addWithCarry` leaves as it was. -/
@[simp] theorem addWithCarry_frame (m : Byte) (s : State) :
    (addWithCarry m s).x = s.x ∧ (addWithCarry m s).y = s.y ∧ (addWithCarry m s).sp = s.sp ∧
    (addWithCarry m s).pc = s.pc ∧ (addWithCarry m s).cycles = s.cycles ∧ (addWithCarry m s).mode = s.mode ∧
    (addWithCarry m s).resetPending = s.resetPending ∧ (addWithCarry m s).nmiPending = s.nmiPending ∧
    (addWithCarry m s).irqPending = s.irqPending ∧ (addWithCarry m s).ram = s.ram ∧
    (addWithCarry m s).shadow = s.shadow ∧ (addWithCarry m s).line = s.line ∧
    (addWithCarry m s).lineTarget = s.lineTarget ∧ (addWithCarry m s).rasterLatched = s.rasterLatched ∧
    (addWithCarry m s).timerLatched = s.timerLatched ∧ (addWithCarry m s).timerLatch = s.timerLatch ∧
    (addWithCarry m s).timerCounter = s.timerCounter ∧ (addWithCarry m s).icrMask = s.icrMask ∧
    (addWithCarry m s).video = s.video ∧ (addWithCarry m s).audio = s.audio ∧ (addWithCarry m s).phase = s.phase ∧
    (addWithCarry m s).frameRequests = s.frameRequests ∧ (addWithCarry m s).hostActions = s.hostActions ∧
    (addWithCarry m s).events = s.events ∧ (addWithCarry m s).draws = s.draws ∧
    (addWithCarry m s).params = s.params :=
  by
  unfold addWithCarry; split <;> simp

/-- What `subtractWithBorrow` leaves as it was. -/
@[simp] theorem subtractWithBorrow_frame (m : Byte) (s : State) :
    (subtractWithBorrow m s).x = s.x ∧ (subtractWithBorrow m s).y = s.y ∧ (subtractWithBorrow m s).sp = s.sp ∧
    (subtractWithBorrow m s).pc = s.pc ∧ (subtractWithBorrow m s).cycles = s.cycles ∧
    (subtractWithBorrow m s).mode = s.mode ∧ (subtractWithBorrow m s).resetPending = s.resetPending ∧
    (subtractWithBorrow m s).nmiPending = s.nmiPending ∧ (subtractWithBorrow m s).irqPending = s.irqPending ∧
    (subtractWithBorrow m s).ram = s.ram ∧ (subtractWithBorrow m s).shadow = s.shadow ∧
    (subtractWithBorrow m s).line = s.line ∧ (subtractWithBorrow m s).lineTarget = s.lineTarget ∧
    (subtractWithBorrow m s).rasterLatched = s.rasterLatched ∧
    (subtractWithBorrow m s).timerLatched = s.timerLatched ∧ (subtractWithBorrow m s).timerLatch = s.timerLatch ∧
    (subtractWithBorrow m s).timerCounter = s.timerCounter ∧ (subtractWithBorrow m s).icrMask = s.icrMask ∧
    (subtractWithBorrow m s).video = s.video ∧ (subtractWithBorrow m s).audio = s.audio ∧
    (subtractWithBorrow m s).phase = s.phase ∧ (subtractWithBorrow m s).frameRequests = s.frameRequests ∧
    (subtractWithBorrow m s).hostActions = s.hostActions ∧ (subtractWithBorrow m s).events = s.events ∧
    (subtractWithBorrow m s).draws = s.draws ∧ (subtractWithBorrow m s).params = s.params :=
  by
  unfold subtractWithBorrow; split <;> simp

/-- What `andRotateRight` leaves as it was. -/
@[simp] theorem andRotateRight_frame (m : Byte) (s : State) :
    (andRotateRight m s).x = s.x ∧ (andRotateRight m s).y = s.y ∧ (andRotateRight m s).sp = s.sp ∧
    (andRotateRight m s).pc = s.pc ∧ (andRotateRight m s).cycles = s.cycles ∧ (andRotateRight m s).mode = s.mode ∧
    (andRotateRight m s).resetPending = s.resetPending ∧ (andRotateRight m s).nmiPending = s.nmiPending ∧
    (andRotateRight m s).irqPending = s.irqPending ∧ (andRotateRight m s).ram = s.ram ∧
    (andRotateRight m s).shadow = s.shadow ∧ (andRotateRight m s).line = s.line ∧
    (andRotateRight m s).lineTarget = s.lineTarget ∧ (andRotateRight m s).rasterLatched = s.rasterLatched ∧
    (andRotateRight m s).timerLatched = s.timerLatched ∧ (andRotateRight m s).timerLatch = s.timerLatch ∧
    (andRotateRight m s).timerCounter = s.timerCounter ∧ (andRotateRight m s).icrMask = s.icrMask ∧
    (andRotateRight m s).video = s.video ∧ (andRotateRight m s).audio = s.audio ∧
    (andRotateRight m s).phase = s.phase ∧ (andRotateRight m s).frameRequests = s.frameRequests ∧
    (andRotateRight m s).hostActions = s.hostActions ∧ (andRotateRight m s).events = s.events ∧
    (andRotateRight m s).draws = s.draws ∧ (andRotateRight m s).params = s.params :=
  by
  unfold andRotateRight; split <;> simp

/-- What `bitTest` leaves as it was. -/
@[simp] theorem bitTest_frame (m : Byte) (s : State) :
    (bitTest m s).a = s.a ∧ (bitTest m s).x = s.x ∧ (bitTest m s).y = s.y ∧ (bitTest m s).sp = s.sp ∧
    (bitTest m s).pc = s.pc ∧ (bitTest m s).cycles = s.cycles ∧ (bitTest m s).mode = s.mode ∧
    (bitTest m s).resetPending = s.resetPending ∧ (bitTest m s).nmiPending = s.nmiPending ∧
    (bitTest m s).irqPending = s.irqPending ∧ (bitTest m s).ram = s.ram ∧ (bitTest m s).shadow = s.shadow ∧
    (bitTest m s).line = s.line ∧ (bitTest m s).lineTarget = s.lineTarget ∧
    (bitTest m s).rasterLatched = s.rasterLatched ∧ (bitTest m s).timerLatched = s.timerLatched ∧
    (bitTest m s).timerLatch = s.timerLatch ∧ (bitTest m s).timerCounter = s.timerCounter ∧
    (bitTest m s).icrMask = s.icrMask ∧ (bitTest m s).video = s.video ∧ (bitTest m s).audio = s.audio ∧
    (bitTest m s).phase = s.phase ∧ (bitTest m s).frameRequests = s.frameRequests ∧
    (bitTest m s).hostActions = s.hostActions ∧ (bitTest m s).events = s.events ∧ (bitTest m s).draws = s.draws ∧
    (bitTest m s).params = s.params :=
  ⟨rfl, rfl, rfl, rfl, rfl, rfl, rfl, rfl, rfl, rfl, rfl, rfl, rfl, rfl, rfl, rfl, rfl, rfl, rfl, rfl, rfl, rfl, rfl, rfl, rfl, rfl, rfl⟩

/-- What `compare` leaves as it was. -/
@[simp] theorem compare_frame (r m : Byte) (s : State) :
    (compare r m s).a = s.a ∧ (compare r m s).x = s.x ∧ (compare r m s).y = s.y ∧ (compare r m s).sp = s.sp ∧
    (compare r m s).pc = s.pc ∧ (compare r m s).cycles = s.cycles ∧ (compare r m s).mode = s.mode ∧
    (compare r m s).resetPending = s.resetPending ∧ (compare r m s).nmiPending = s.nmiPending ∧
    (compare r m s).irqPending = s.irqPending ∧ (compare r m s).ram = s.ram ∧ (compare r m s).shadow = s.shadow ∧
    (compare r m s).line = s.line ∧ (compare r m s).lineTarget = s.lineTarget ∧
    (compare r m s).rasterLatched = s.rasterLatched ∧ (compare r m s).timerLatched = s.timerLatched ∧
    (compare r m s).timerLatch = s.timerLatch ∧ (compare r m s).timerCounter = s.timerCounter ∧
    (compare r m s).icrMask = s.icrMask ∧ (compare r m s).video = s.video ∧ (compare r m s).audio = s.audio ∧
    (compare r m s).phase = s.phase ∧ (compare r m s).frameRequests = s.frameRequests ∧
    (compare r m s).hostActions = s.hostActions ∧ (compare r m s).events = s.events ∧
    (compare r m s).draws = s.draws ∧ (compare r m s).params = s.params :=
  ⟨rfl, rfl, rfl, rfl, rfl, rfl, rfl, rfl, rfl, rfl, rfl, rfl, rfl, rfl, rfl, rfl, rfl, rfl, rfl, rfl, rfl, rfl, rfl, rfl, rfl, rfl, rfl⟩

/-- What `subtractFromAX` leaves as it was. -/
@[simp] theorem subtractFromAX_frame (m : Byte) (s : State) :
    (subtractFromAX m s).a = s.a ∧ (subtractFromAX m s).y = s.y ∧ (subtractFromAX m s).sp = s.sp ∧
    (subtractFromAX m s).pc = s.pc ∧ (subtractFromAX m s).cycles = s.cycles ∧ (subtractFromAX m s).mode = s.mode ∧
    (subtractFromAX m s).resetPending = s.resetPending ∧ (subtractFromAX m s).nmiPending = s.nmiPending ∧
    (subtractFromAX m s).irqPending = s.irqPending ∧ (subtractFromAX m s).ram = s.ram ∧
    (subtractFromAX m s).shadow = s.shadow ∧ (subtractFromAX m s).line = s.line ∧
    (subtractFromAX m s).lineTarget = s.lineTarget ∧ (subtractFromAX m s).rasterLatched = s.rasterLatched ∧
    (subtractFromAX m s).timerLatched = s.timerLatched ∧ (subtractFromAX m s).timerLatch = s.timerLatch ∧
    (subtractFromAX m s).timerCounter = s.timerCounter ∧ (subtractFromAX m s).icrMask = s.icrMask ∧
    (subtractFromAX m s).video = s.video ∧ (subtractFromAX m s).audio = s.audio ∧
    (subtractFromAX m s).phase = s.phase ∧ (subtractFromAX m s).frameRequests = s.frameRequests ∧
    (subtractFromAX m s).hostActions = s.hostActions ∧ (subtractFromAX m s).events = s.events ∧
    (subtractFromAX m s).draws = s.draws ∧ (subtractFromAX m s).params = s.params :=
  ⟨rfl, rfl, rfl, rfl, rfl, rfl, rfl, rfl, rfl, rfl, rfl, rfl, rfl, rfl, rfl, rfl, rfl, rfl, rfl, rfl, rfl, rfl, rfl, rfl, rfl, rfl⟩

/-- What `asl` leaves as it was. -/
@[simp] theorem asl_frame (v : Byte) (s : State) :
    ((asl v s).2).a = s.a ∧ ((asl v s).2).x = s.x ∧ ((asl v s).2).y = s.y ∧ ((asl v s).2).sp = s.sp ∧
    ((asl v s).2).pc = s.pc ∧ ((asl v s).2).cycles = s.cycles ∧ ((asl v s).2).mode = s.mode ∧
    ((asl v s).2).resetPending = s.resetPending ∧ ((asl v s).2).nmiPending = s.nmiPending ∧
    ((asl v s).2).irqPending = s.irqPending ∧ ((asl v s).2).ram = s.ram ∧ ((asl v s).2).shadow = s.shadow ∧
    ((asl v s).2).line = s.line ∧ ((asl v s).2).lineTarget = s.lineTarget ∧
    ((asl v s).2).rasterLatched = s.rasterLatched ∧ ((asl v s).2).timerLatched = s.timerLatched ∧
    ((asl v s).2).timerLatch = s.timerLatch ∧ ((asl v s).2).timerCounter = s.timerCounter ∧
    ((asl v s).2).icrMask = s.icrMask ∧ ((asl v s).2).video = s.video ∧ ((asl v s).2).audio = s.audio ∧
    ((asl v s).2).phase = s.phase ∧ ((asl v s).2).frameRequests = s.frameRequests ∧
    ((asl v s).2).hostActions = s.hostActions ∧ ((asl v s).2).events = s.events ∧ ((asl v s).2).draws = s.draws ∧
    ((asl v s).2).params = s.params :=
  ⟨rfl, rfl, rfl, rfl, rfl, rfl, rfl, rfl, rfl, rfl, rfl, rfl, rfl, rfl, rfl, rfl, rfl, rfl, rfl, rfl, rfl, rfl, rfl, rfl, rfl, rfl, rfl⟩

/-- What `lsr` leaves as it was. -/
@[simp] theorem lsr_frame (v : Byte) (s : State) :
    ((lsr v s).2).a = s.a ∧ ((lsr v s).2).x = s.x ∧ ((lsr v s).2).y = s.y ∧ ((lsr v s).2).sp = s.sp ∧
    ((lsr v s).2).pc = s.pc ∧ ((lsr v s).2).cycles = s.cycles ∧ ((lsr v s).2).mode = s.mode ∧
    ((lsr v s).2).resetPending = s.resetPending ∧ ((lsr v s).2).nmiPending = s.nmiPending ∧
    ((lsr v s).2).irqPending = s.irqPending ∧ ((lsr v s).2).ram = s.ram ∧ ((lsr v s).2).shadow = s.shadow ∧
    ((lsr v s).2).line = s.line ∧ ((lsr v s).2).lineTarget = s.lineTarget ∧
    ((lsr v s).2).rasterLatched = s.rasterLatched ∧ ((lsr v s).2).timerLatched = s.timerLatched ∧
    ((lsr v s).2).timerLatch = s.timerLatch ∧ ((lsr v s).2).timerCounter = s.timerCounter ∧
    ((lsr v s).2).icrMask = s.icrMask ∧ ((lsr v s).2).video = s.video ∧ ((lsr v s).2).audio = s.audio ∧
    ((lsr v s).2).phase = s.phase ∧ ((lsr v s).2).frameRequests = s.frameRequests ∧
    ((lsr v s).2).hostActions = s.hostActions ∧ ((lsr v s).2).events = s.events ∧ ((lsr v s).2).draws = s.draws ∧
    ((lsr v s).2).params = s.params :=
  ⟨rfl, rfl, rfl, rfl, rfl, rfl, rfl, rfl, rfl, rfl, rfl, rfl, rfl, rfl, rfl, rfl, rfl, rfl, rfl, rfl, rfl, rfl, rfl, rfl, rfl, rfl, rfl⟩

/-- What `rol` leaves as it was. -/
@[simp] theorem rol_frame (v : Byte) (s : State) :
    ((rol v s).2).a = s.a ∧ ((rol v s).2).x = s.x ∧ ((rol v s).2).y = s.y ∧ ((rol v s).2).sp = s.sp ∧
    ((rol v s).2).pc = s.pc ∧ ((rol v s).2).cycles = s.cycles ∧ ((rol v s).2).mode = s.mode ∧
    ((rol v s).2).resetPending = s.resetPending ∧ ((rol v s).2).nmiPending = s.nmiPending ∧
    ((rol v s).2).irqPending = s.irqPending ∧ ((rol v s).2).ram = s.ram ∧ ((rol v s).2).shadow = s.shadow ∧
    ((rol v s).2).line = s.line ∧ ((rol v s).2).lineTarget = s.lineTarget ∧
    ((rol v s).2).rasterLatched = s.rasterLatched ∧ ((rol v s).2).timerLatched = s.timerLatched ∧
    ((rol v s).2).timerLatch = s.timerLatch ∧ ((rol v s).2).timerCounter = s.timerCounter ∧
    ((rol v s).2).icrMask = s.icrMask ∧ ((rol v s).2).video = s.video ∧ ((rol v s).2).audio = s.audio ∧
    ((rol v s).2).phase = s.phase ∧ ((rol v s).2).frameRequests = s.frameRequests ∧
    ((rol v s).2).hostActions = s.hostActions ∧ ((rol v s).2).events = s.events ∧ ((rol v s).2).draws = s.draws ∧
    ((rol v s).2).params = s.params :=
  ⟨rfl, rfl, rfl, rfl, rfl, rfl, rfl, rfl, rfl, rfl, rfl, rfl, rfl, rfl, rfl, rfl, rfl, rfl, rfl, rfl, rfl, rfl, rfl, rfl, rfl, rfl, rfl⟩

/-- What `ror` leaves as it was. -/
@[simp] theorem ror_frame (v : Byte) (s : State) :
    ((ror v s).2).a = s.a ∧ ((ror v s).2).x = s.x ∧ ((ror v s).2).y = s.y ∧ ((ror v s).2).sp = s.sp ∧
    ((ror v s).2).pc = s.pc ∧ ((ror v s).2).cycles = s.cycles ∧ ((ror v s).2).mode = s.mode ∧
    ((ror v s).2).resetPending = s.resetPending ∧ ((ror v s).2).nmiPending = s.nmiPending ∧
    ((ror v s).2).irqPending = s.irqPending ∧ ((ror v s).2).ram = s.ram ∧ ((ror v s).2).shadow = s.shadow ∧
    ((ror v s).2).line = s.line ∧ ((ror v s).2).lineTarget = s.lineTarget ∧
    ((ror v s).2).rasterLatched = s.rasterLatched ∧ ((ror v s).2).timerLatched = s.timerLatched ∧
    ((ror v s).2).timerLatch = s.timerLatch ∧ ((ror v s).2).timerCounter = s.timerCounter ∧
    ((ror v s).2).icrMask = s.icrMask ∧ ((ror v s).2).video = s.video ∧ ((ror v s).2).audio = s.audio ∧
    ((ror v s).2).phase = s.phase ∧ ((ror v s).2).frameRequests = s.frameRequests ∧
    ((ror v s).2).hostActions = s.hostActions ∧ ((ror v s).2).events = s.events ∧ ((ror v s).2).draws = s.draws ∧
    ((ror v s).2).params = s.params :=
  ⟨rfl, rfl, rfl, rfl, rfl, rfl, rfl, rfl, rfl, rfl, rfl, rfl, rfl, rfl, rfl, rfl, rfl, rfl, rfl, rfl, rfl, rfl, rfl, rfl, rfl, rfl, rfl⟩

/-- Decimal and interrupt-disable are not touched by any arithmetic operation. -/
@[simp] theorem arithmetic_flags (m : Byte) (s : State) :
    (addWithCarry m s).flags.d = s.flags.d ∧ (addWithCarry m s).flags.i = s.flags.i ∧
    (subtractWithBorrow m s).flags.d = s.flags.d ∧ (subtractWithBorrow m s).flags.i = s.flags.i ∧
    (andRotateRight m s).flags.d = s.flags.d ∧ (andRotateRight m s).flags.i = s.flags.i := by
  refine ⟨?_, ?_, ?_, ?_, ?_, ?_⟩
  all_goals first
    | (unfold addWithCarry; split <;> rfl)
    | (unfold subtractWithBorrow; split <;> rfl)
    | (unfold andRotateRight; split <;> rfl)

/-- The operations that are another one with its operand filled in. -/
theorem flag_operations_by_name :
    (∀ m s, andA m s = setA (s.a &&& m) s) ∧ (∀ m s, orA m s = setA (s.a ||| m) s) ∧
    (∀ m s, eorA m s = setA (s.a ^^^ m) s) ∧ (∀ v s, loadAX v s = setA v (setX v s)) ∧
    (∀ m s, compareA m s = compare s.a m s) ∧ (∀ m s, compareX m s = compare s.x m s) ∧
    (∀ m s, compareY m s = compare s.y m s) ∧ (∀ v s, increment v s = (v + 1, s)) ∧
    (∀ v s, decrement v s = (v - 1, s)) ∧ (∀ v s, doneAfterWrite v s = s) ∧
    (∀ m s, andCopyN m s = setC ((s.a &&& m).getLsbD 7) (setA (s.a &&& m) s)) ∧
    (∀ m s, andShiftRight m s = setA ((s.a &&& m) >>> 1) (setC ((s.a &&& m).getLsbD 0) s)) := by
  refine ⟨?_, ?_, ?_, ?_, ?_, ?_, ?_, ?_, ?_, ?_, ?_, ?_⟩ <;> exact fun _ _ => rfl

end Sys2Proof.Machine
end

