-- ==== Sys2Proof/Laws/Ops.lean ====
section
/-!
SUPPORT. Laws/Ops.lean: what the shared operations can do: the bus, the stack, the vectors, taking an interrupt and
returning from one, and that each of them keeps the memories in canonical form.
-/

namespace Sys2Proof.Machine

open Sys2Proof.Safety

/-! ## Addresses -/

theorem mkAddr_toNat (lo hi : Byte) : (mkAddr lo hi).toNat = hi.toNat * 256 + lo.toNat := by
  have := lo.isLt
  simp only [mkAddr, BitVec.toNat_append]
  rw [← Nat.shiftLeft_add_eq_or_of_lt this, Nat.shiftLeft_eq]

theorem loByte_toNat (a : Addr) : (loByte a).toNat = a.toNat % 256 := by
  simp [loByte]

theorem hiByte_toNat (a : Addr) : (hiByte a).toNat = a.toNat / 256 := by
  have := a.isLt
  simp only [hiByte, BitVec.toNat_setWidth, BitVec.toNat_ushiftRight, Nat.shiftRight_eq_div_pow]
  omega

/-- An address is made of its two bytes. -/
@[simp] theorem mkAddr_bytes (a : Addr) : mkAddr (loByte a) (hiByte a) = a := by
  apply BitVec.eq_of_toNat_eq
  rw [mkAddr_toNat, loByte_toNat, hiByte_toNat]
  omega

@[simp] theorem loByte_mkAddr (lo hi : Byte) : loByte (mkAddr lo hi) = lo := by
  apply BitVec.eq_of_toNat_eq
  have := lo.isLt
  rw [loByte_toNat, mkAddr_toNat]
  omega

@[simp] theorem hiByte_mkAddr (lo hi : Byte) : hiByte (mkAddr lo hi) = hi := by
  apply BitVec.eq_of_toNat_eq
  have := lo.isLt
  rw [hiByte_toNat, mkAddr_toNat]
  omega

theorem stackAddr_toNat (sp : Byte) : (stackAddr sp).toNat = 256 + sp.toNat := by
  rw [stackAddr, mkAddr_toNat]
  rfl

theorem zeroPage_toNat (b : Byte) : (zeroPage b).toNat = b.toNat := by
  have := b.isLt
  simp only [zeroPage, BitVec.toNat_setWidth]
  omega

/-- Two addresses lie in different pages when their high bytes differ. -/
theorem pagesDiffer_eq (a b : Addr) : pagesDiffer a b = decide (a.toNat / 256 ≠ b.toNat / 256) := by
  have h : ∀ z : Addr, z &&& 0xFF00 = mkAddr 0x00 (hiByte z) := by
    intro z
    apply BitVec.eq_of_getLsbD_eq
    intro i hi
    simp only [mkAddr, hiByte, BitVec.getLsbD_and, BitVec.getLsbD_append, BitVec.getLsbD_setWidth,
      BitVec.getLsbD_ushiftRight]
    have hm : (0xFF00 : Addr).getLsbD i = decide (8 ≤ i) := by
      revert i
      decide
    rw [hm]
    by_cases h8 : i < 8
    · simp [h8, show ¬ 8 ≤ i by omega]
    · simp [h8, show 8 ≤ i by omega, show i - 8 < 8 by omega]
  have hinj : mkAddr 0x00 (hiByte a) = mkAddr 0x00 (hiByte b) ↔ a.toNat / 256 = b.toNat / 256 := by
    rw [← hiByte_toNat, ← hiByte_toNat, BitVec.toNat_inj]
    constructor
    · intro e
      rw [← hiByte_mkAddr 0x00 (hiByte a), e, hiByte_mkAddr]
    · intro e
      rw [e]
  unfold pagesDiffer
  rw [h, h]
  by_cases e : a.toNat / 256 = b.toNat / 256
  · rw [hinj.2 e]
    simp [e]
  · have e' : mkAddr 0x00 (hiByte a) ≠ mkAddr 0x00 (hiByte b) := fun he => e (hinj.1 he)
    have hb : (mkAddr 0x00 (hiByte a) == mkAddr 0x00 (hiByte b)) = false := beq_eq_false_iff_ne.2 e'
    simp only [bne, hb, Bool.not_false, ne_eq, e, not_false_eq_true, decide_true]

/-- The target of a branch as a sum of integers (R148). -/
theorem branchTarget_eq (next : Addr) (off : Int) : branchTarget next off = BitVec.ofInt 16 ((next.toNat : Int) + off) := by
  unfold branchTarget
  rw [BitVec.ofInt_add]
  congr 1
  simp

/-! ## Routing (R82) -/

/-- Routing depends on RAM and on where the bank control byte stands. -/
theorem isIO_congr {s t : State} (h : s.ram = t.ram) (hp : s.params.bankCtrlAddr = t.params.bankCtrlAddr) (a : Addr) :
    isIO a s = isIO a t := by
  simp only [isIO, h, hp]

theorem isIO_below {a : Addr} (h : a.toNat < 0xD000) (s : State) : isIO a s = false := by
  have h' : ¬ ioLo ≤ a.toNat := Nat.not_le.2 h
  simp [isIO, h']

theorem isIO_above {a : Addr} (h : 0xE000 ≤ a.toNat) (s : State) : isIO a s = false := by
  have h' : ¬ a.toNat < ioHi := Nat.not_lt.2 h
  simp [isIO, h']

theorem isIO_range {a : Addr} {s : State} (h : isIO a s = true) : 0xD000 ≤ a.toNat ∧ a.toNat < 0xE000 := by
  simp only [isIO, Bool.and_eq_true, decide_eq_true_eq] at h
  exact ⟨h.1.2, h.2⟩

@[simp] theorem isIO_stackAddr (sp : Byte) (s : State) : isIO (stackAddr sp) s = false := by
  have := sp.isLt
  exact isIO_below (by rw [stackAddr_toNat]; omega) s

@[simp] theorem isIO_zeroPage (b : Byte) (s : State) : isIO (zeroPage b) s = false := by
  have := b.isLt
  exact isIO_below (by rw [zeroPage_toNat]; omega) s

/-! ## Reads (R84) -/

theorem memRead_ram {a : Addr} {s : State} (h : isIO a s = false) : memRead a s = (s.ram.read a.toNat, s) := by
  simp [memRead, h]

theorem memRead_zeroPage (b : Byte) (s : State) : memRead (zeroPage b) s = (s.ram.read b.toNat, s) := by
  rw [memRead_ram (isIO_zeroPage b s), zeroPage_toNat]

theorem memRead_stack (sp : Byte) (s : State) : memRead (stackAddr sp) s = (s.ram.read (256 + sp.toNat), s) := by
  rw [memRead_ram (isIO_stackAddr sp s), stackAddr_toNat]

/-- A read with no interception reads the stored byte (R84). -/
theorem memRead_absent {a : Addr} {s : State} (h : isIO a s = true) (hc : s.params.readCallback = .absent) :
    memRead a s = (s.shadow.read (shadowOffset a), s) := by
  simp [memRead, h, interceptRead, hc]

/-- A read that the block's own interception handles (R88). -/
theorem memRead_handled {a : Addr} {s : State} {r : Byte × State} (h : isIO a s = true)
    (hc : s.params.readCallback = .block) (hr : readIntercept a s = some r) : memRead a s = r := by
  simp [memRead, h, interceptRead, hc, hr]

/-- A read that the block's own interception declines (R84). -/
theorem memRead_declined {a : Addr} {s : State} (h : isIO a s = true) (hc : s.params.readCallback = .block)
    (hr : readIntercept a s = none) : memRead a s = (s.shadow.read (shadowOffset a), s) := by
  simp [memRead, h, interceptRead, hc, hr]

/-- A read with an interception of the host's own (R9, R84). -/
theorem memRead_host {a : Addr} {s : State} (h : isIO a s = true) (hc : s.params.readCallback = .host) :
    memRead a s =
      (((Config.readCallback s.draws a).handled.getD (s.shadow.read (shadowOffset a))),
        { s with
          draws := s.draws + 1
          resetPending := s.resetPending || (Config.readCallback s.draws a).reset }) := by
  cases hh : (Config.readCallback s.draws a).handled <;> simp [memRead, h, interceptRead, hc, hostReadIntercept, hh]

/-- All a read can do to the state: nothing, one draw of an input, the clearing of the timer flag, or one draw of the host's
answer, which may ask for a reset. -/
theorem memRead_state (a : Addr) (s : State) :
    (memRead a s).2 = s ∨ (memRead a s).2 = { s with draws := s.draws + 1 } ∨
      (memRead a s).2 = { s with timerLatched := false } ∨
      (s.params.readCallback = .host ∧
        (memRead a s).2 =
          { s with
            draws := s.draws + 1
            resetPending := s.resetPending || (Config.readCallback s.draws a).reset }) := by
  cases h : isIO a s
  · exact .inl (by rw [memRead_ram h])
  · cases hc : s.params.readCallback
    · exact .inl (by rw [memRead_absent h hc])
    · cases hr : readIntercept a s with
      | none => exact .inl (by rw [memRead_declined h hc hr])
      | some r =>
        rw [memRead_handled h hc hr]
        unfold readIntercept at hr
        grind
    · exact .inr (.inr (.inr ⟨rfl, by rw [memRead_host h hc]⟩))

/-- What a read leaves as it was. -/
@[simp] theorem memRead_frame (a : Addr) (s : State) :
    ((memRead a s).2).a = s.a ∧ ((memRead a s).2).x = s.x ∧ ((memRead a s).2).y = s.y ∧ ((memRead a s).2).sp = s.sp ∧
    ((memRead a s).2).pc = s.pc ∧ ((memRead a s).2).flags = s.flags ∧ ((memRead a s).2).cycles = s.cycles ∧
    ((memRead a s).2).mode = s.mode ∧ ((memRead a s).2).nmiPending = s.nmiPending ∧
    ((memRead a s).2).irqPending = s.irqPending ∧ ((memRead a s).2).ram = s.ram ∧
    ((memRead a s).2).shadow = s.shadow ∧ ((memRead a s).2).line = s.line ∧
    ((memRead a s).2).lineTarget = s.lineTarget ∧ ((memRead a s).2).rasterLatched = s.rasterLatched ∧
    ((memRead a s).2).timerLatch = s.timerLatch ∧ ((memRead a s).2).timerCounter = s.timerCounter ∧
    ((memRead a s).2).icrMask = s.icrMask ∧ ((memRead a s).2).video = s.video ∧ ((memRead a s).2).audio = s.audio ∧
    ((memRead a s).2).phase = s.phase ∧ ((memRead a s).2).frameRequests = s.frameRequests ∧
    ((memRead a s).2).hostActions = s.hostActions ∧ ((memRead a s).2).events = s.events ∧
    ((memRead a s).2).params = s.params := by
  rcases memRead_state a s with h | h | h | ⟨-, h⟩ <;> simp [h]

/-- A read never withdraws a reset request, and only the host's own interception makes one (R602). -/
theorem memRead_resetPending (a : Addr) (s : State) :
    (s.resetPending = true → (memRead a s).2.resetPending = true) ∧
    (s.params.readCallback ≠ .host → (memRead a s).2.resetPending = s.resetPending) := by
  rcases memRead_state a s with h | h | h | ⟨hc, h⟩ <;> simp_all

/-- A 16-bit read of two cells outside the I/O window (R90). -/
theorem memRead16_ram {a : Addr} {s : State} (h : isIO a s = false) (h' : isIO (a + 1) s = false) :
    memRead16 a s = (mkAddr (s.ram.read a.toNat) (s.ram.read (a + 1).toNat), s) := by
  simp only [memRead16, memRead_ram h, memRead_ram h']

/-- "the vectors always come from RAM" (R99), where they stand outside the I/O window, as the default ones do. -/
theorem memRead16_inRam {vec : Addr} {s : State} (h : InRam vec s) :
    memRead16 vec s = (mkAddr (s.ram.read vec.toNat) (s.ram.read (vec + 1).toNat), s) :=
  memRead16_ram h.1 h.2

/-- The default vectors stand outside the I/O window (R99). -/
theorem inRam_default (s : State) : InRam 0xFFFA s ∧ InRam 0xFFFC s ∧ InRam 0xFFFE s :=
  ⟨⟨isIO_above (by decide) s, isIO_above (by decide) s⟩, ⟨isIO_above (by decide) s, isIO_above (by decide) s⟩,
   ⟨isIO_above (by decide) s, isIO_above (by decide) s⟩⟩

/-- What a 16-bit read leaves as it was. -/
@[simp] theorem memRead16_frame (a : Addr) (s : State) :
    ((memRead16 a s).2).a = s.a ∧ ((memRead16 a s).2).x = s.x ∧ ((memRead16 a s).2).y = s.y ∧
    ((memRead16 a s).2).sp = s.sp ∧ ((memRead16 a s).2).pc = s.pc ∧ ((memRead16 a s).2).flags = s.flags ∧
    ((memRead16 a s).2).cycles = s.cycles ∧ ((memRead16 a s).2).mode = s.mode ∧
    ((memRead16 a s).2).nmiPending = s.nmiPending ∧ ((memRead16 a s).2).irqPending = s.irqPending ∧
    ((memRead16 a s).2).ram = s.ram ∧ ((memRead16 a s).2).shadow = s.shadow ∧ ((memRead16 a s).2).line = s.line ∧
    ((memRead16 a s).2).lineTarget = s.lineTarget ∧ ((memRead16 a s).2).rasterLatched = s.rasterLatched ∧
    ((memRead16 a s).2).timerLatch = s.timerLatch ∧ ((memRead16 a s).2).timerCounter = s.timerCounter ∧
    ((memRead16 a s).2).icrMask = s.icrMask ∧ ((memRead16 a s).2).video = s.video ∧
    ((memRead16 a s).2).audio = s.audio ∧ ((memRead16 a s).2).phase = s.phase ∧
    ((memRead16 a s).2).frameRequests = s.frameRequests ∧ ((memRead16 a s).2).hostActions = s.hostActions ∧
    ((memRead16 a s).2).events = s.events ∧ ((memRead16 a s).2).params = s.params := by
  simp [memRead16]

/-- What a fetch leaves as it was. -/
@[simp] theorem fetch_frame (s : State) :
    ((fetch s).2).a = s.a ∧ ((fetch s).2).x = s.x ∧ ((fetch s).2).y = s.y ∧ ((fetch s).2).sp = s.sp ∧
    ((fetch s).2).flags = s.flags ∧ ((fetch s).2).cycles = s.cycles ∧ ((fetch s).2).mode = s.mode ∧
    ((fetch s).2).nmiPending = s.nmiPending ∧ ((fetch s).2).irqPending = s.irqPending ∧ ((fetch s).2).ram = s.ram ∧
    ((fetch s).2).shadow = s.shadow ∧ ((fetch s).2).line = s.line ∧ ((fetch s).2).lineTarget = s.lineTarget ∧
    ((fetch s).2).rasterLatched = s.rasterLatched ∧ ((fetch s).2).timerLatch = s.timerLatch ∧
    ((fetch s).2).timerCounter = s.timerCounter ∧ ((fetch s).2).icrMask = s.icrMask ∧ ((fetch s).2).video = s.video ∧
    ((fetch s).2).audio = s.audio ∧ ((fetch s).2).phase = s.phase ∧ ((fetch s).2).frameRequests = s.frameRequests ∧
    ((fetch s).2).hostActions = s.hostActions ∧ ((fetch s).2).events = s.events ∧
    ((fetch s).2).params = s.params := by
  simp [fetch]

@[simp] theorem fetch_pc (s : State) : (fetch s).2.pc = s.pc + 1 := by
  simp [fetch]

/-- The byte fetched, and the state after, from RAM. -/
theorem fetch_ram {s : State} (h : isIO s.pc s = false) : fetch s = (s.ram.read s.pc.toNat, { s with pc := s.pc + 1 }) := by
  simp [fetch, memRead_ram h]

/-- The pointer in page 0 comes from RAM (R144, R145). -/
theorem zeroPagePointer_eq (p : Byte) (s : State) :
    zeroPagePointer p s = mkAddr (s.ram.read p.toNat) (s.ram.read (p + 1).toNat) := by
  simp [zeroPagePointer, memRead_zeroPage]

/-! ## Writes (R86) -/

theorem memWrite_ram {a : Addr} {s : State} (h : isIO a s = false) (v : Byte) : memWrite a v s = storeRam a v s := by
  simp [memWrite, h]

theorem memWrite_io {a : Addr} {s : State} (h : isIO a s = true) (v : Byte) :
    memWrite a v s = storeShadow a v (interceptWrite a v s) := by
  simp [memWrite, h]

/-- A write with no interception stores alone (R86). -/
theorem memWrite_absent {a : Addr} {s : State} (h : isIO a s = true) (hc : s.params.writeCallback = .absent) (v : Byte) :
    memWrite a v s = storeShadow a v s := by
  simp [memWrite_io h, interceptWrite, hc]

/-- A write with the block's own interception (R107). -/
theorem memWrite_block {a : Addr} {s : State} (h : isIO a s = true) (hc : s.params.writeCallback = .block) (v : Byte) :
    memWrite a v s = storeShadow a v (writeIntercept a v s) := by
  simp [memWrite_io h, interceptWrite, hc]

/-- A write with an interception of the host's own (R9, R86). -/
theorem memWrite_host {a : Addr} {s : State} (h : isIO a s = true) (hc : s.params.writeCallback = .host) (v : Byte) :
    memWrite a v s = storeShadow a v (hostWriteIntercept a v s) := by
  simp [memWrite_io h, interceptWrite, hc]

/-- What the write interception leaves as it was: both memories among it. -/
@[simp] theorem writeIntercept_frame (a : Addr) (v : Byte) (s : State) :
    (writeIntercept a v s).a = s.a ∧ (writeIntercept a v s).x = s.x ∧ (writeIntercept a v s).y = s.y ∧
    (writeIntercept a v s).sp = s.sp ∧ (writeIntercept a v s).pc = s.pc ∧ (writeIntercept a v s).flags = s.flags ∧
    (writeIntercept a v s).cycles = s.cycles ∧ (writeIntercept a v s).mode = s.mode ∧
    (writeIntercept a v s).resetPending = s.resetPending ∧ (writeIntercept a v s).nmiPending = s.nmiPending ∧
    (writeIntercept a v s).irqPending = s.irqPending ∧ (writeIntercept a v s).ram = s.ram ∧
    (writeIntercept a v s).shadow = s.shadow ∧ (writeIntercept a v s).line = s.line ∧
    (writeIntercept a v s).lineTarget = s.lineTarget ∧ (writeIntercept a v s).timerLatched = s.timerLatched ∧
    (writeIntercept a v s).video = s.video ∧ (writeIntercept a v s).phase = s.phase ∧
    (writeIntercept a v s).frameRequests = s.frameRequests ∧ (writeIntercept a v s).hostActions = s.hostActions ∧
    (writeIntercept a v s).events = s.events ∧ (writeIntercept a v s).draws = s.draws ∧
    (writeIntercept a v s).params = s.params :=
  by
  unfold writeIntercept
  split_ifs <;> exact ⟨rfl, rfl, rfl, rfl, rfl, rfl, rfl, rfl, rfl, rfl, rfl, rfl, rfl, rfl, rfl, rfl, rfl, rfl, rfl, rfl, rfl, rfl, rfl⟩

/-- What the registered write interception leaves as it was: both memories among it. -/
@[simp] theorem interceptWrite_frame (a : Addr) (v : Byte) (s : State) :
    (interceptWrite a v s).ram = s.ram ∧ (interceptWrite a v s).shadow = s.shadow ∧ (interceptWrite a v s).a = s.a ∧
    (interceptWrite a v s).x = s.x ∧ (interceptWrite a v s).y = s.y ∧ (interceptWrite a v s).sp = s.sp ∧
    (interceptWrite a v s).pc = s.pc ∧ (interceptWrite a v s).flags = s.flags ∧
    (interceptWrite a v s).cycles = s.cycles ∧ (interceptWrite a v s).mode = s.mode ∧
    (interceptWrite a v s).nmiPending = s.nmiPending ∧ (interceptWrite a v s).irqPending = s.irqPending ∧
    (interceptWrite a v s).line = s.line ∧ (interceptWrite a v s).lineTarget = s.lineTarget ∧
    (interceptWrite a v s).timerLatched = s.timerLatched ∧ (interceptWrite a v s).video = s.video ∧
    (interceptWrite a v s).phase = s.phase ∧ (interceptWrite a v s).frameRequests = s.frameRequests ∧
    (interceptWrite a v s).hostActions = s.hostActions ∧ (interceptWrite a v s).events = s.events ∧
    (interceptWrite a v s).params = s.params := by
  unfold interceptWrite
  split
  · simp
  · simp
  · exact ⟨rfl, rfl, rfl, rfl, rfl, rfl, rfl, rfl, rfl, rfl, rfl, rfl, rfl, rfl, rfl, rfl, rfl, rfl, rfl, rfl, rfl⟩

/-- What a write leaves as it was, apart from the memories. -/
@[simp] theorem memWrite_frame (a : Addr) (v : Byte) (s : State) :
    (memWrite a v s).a = s.a ∧ (memWrite a v s).x = s.x ∧ (memWrite a v s).y = s.y ∧ (memWrite a v s).sp = s.sp ∧
    (memWrite a v s).pc = s.pc ∧ (memWrite a v s).flags = s.flags ∧ (memWrite a v s).cycles = s.cycles ∧
    (memWrite a v s).mode = s.mode ∧ (memWrite a v s).nmiPending = s.nmiPending ∧
    (memWrite a v s).irqPending = s.irqPending ∧ (memWrite a v s).line = s.line ∧
    (memWrite a v s).lineTarget = s.lineTarget ∧ (memWrite a v s).timerLatched = s.timerLatched ∧
    (memWrite a v s).video = s.video ∧ (memWrite a v s).phase = s.phase ∧
    (memWrite a v s).frameRequests = s.frameRequests ∧ (memWrite a v s).hostActions = s.hostActions ∧
    (memWrite a v s).events = s.events ∧ (memWrite a v s).params = s.params := by
  unfold memWrite
  split <;> simp [storeShadow, storeRam]

/-- A write never withdraws a reset request, and only the host's own interception makes one or draws (R602). -/
theorem memWrite_resetPending (a : Addr) (v : Byte) (s : State) :
    (s.resetPending = true → (memWrite a v s).resetPending = true) ∧
    (s.params.writeCallback ≠ .host →
      (memWrite a v s).resetPending = s.resetPending ∧ (memWrite a v s).draws = s.draws) := by
  unfold memWrite
  cases isIO a s
  · exact ⟨fun h => h, fun _ => ⟨rfl, rfl⟩⟩
  · unfold interceptWrite
    cases hc : s.params.writeCallback <;> simp_all [storeShadow, hostWriteIntercept]

/-- RAM after a write: "a write to 0xD000-0xDFFF does not reach RAM" while I/O is banked in (R86). -/
theorem memWrite_ram_field (a : Addr) (v : Byte) (s : State) :
    (memWrite a v s).ram = if isIO a s then s.ram else s.ram.write a.toNat v := by
  unfold memWrite
  split <;> simp

/-- SHADOW after a write. -/
theorem memWrite_shadow_field (a : Addr) (v : Byte) (s : State) :
    (memWrite a v s).shadow = if isIO a s then s.shadow.write (shadowOffset a) v else s.shadow := by
  unfold memWrite
  split <;> simp

/-- A write neither reads nor changes the flags. -/
theorem memWrite_flags (a : Addr) (v : Byte) (f : Flags) (s : State) :
    memWrite a v { s with flags := f } = { memWrite a v s with flags := f } := by
  unfold memWrite
  cases h : isIO a s
  · have h' : isIO a { s with flags := f } = false := h
    simp only [h', Bool.false_eq_true, if_false]
    rfl
  · have h' : isIO a { s with flags := f } = true := h
    simp only [h', if_true]
    unfold interceptWrite
    cases hc : s.params.writeCallback
    · rfl
    · unfold writeIntercept
      split_ifs <;> rfl
    · rfl

/-! ## The stack (R98) -/

/-- A push writes the stack cell and decrements S. -/
theorem push_eq (v : Byte) (s : State) :
    push v s = { s with ram := s.ram.write (256 + s.sp.toNat) v, sp := s.sp - 1 } := by
  simp only [push, memWrite_ram (isIO_stackAddr s.sp s)]
  simp [storeRam, stackAddr_toNat]

/-- A pull increments S and reads the stack cell. -/
theorem pull_eq (s : State) : pull s = (s.ram.read (256 + (s.sp + 1).toNat), { s with sp := s.sp + 1 }) := by
  simp [pull, memRead_stack]

/-- An address is pushed high byte first (R91). -/
theorem pushAddr_eq (a : Addr) (s : State) :
    pushAddr a s =
      { s with
        ram := (s.ram.write (256 + s.sp.toNat) (hiByte a)).write (256 + (s.sp - 1).toNat) (loByte a)
        sp := s.sp - 1 - 1 } := by
  simp [pushAddr, push_eq]

/-- An address is pulled low byte first (R311). -/
theorem pullAddr_eq (s : State) :
    pullAddr s =
      (mkAddr (s.ram.read (256 + (s.sp + 1).toNat)) (s.ram.read (256 + (s.sp + 1 + 1).toNat)),
       { s with sp := s.sp + 1 + 1 }) := by
  simp [pullAddr, pull_eq]

/-- RAM after an interrupt entry or BRK has pushed the return address and the status byte. -/
def ramAfterEntry (ret : Addr) (p : Byte) (s : State) : Memory :=
  ((s.ram.write (256 + s.sp.toNat) (hiByte ret)).write (256 + (s.sp - 1).toNat) (loByte ret)).write
    (256 + (s.sp - 1 - 1).toNat) p

/-- Taking an interrupt through a vector in RAM, all of it (R408, R313). -/
theorem takeInterrupt_eq {vec ret : Addr} {p : Byte} {s : State}
    (h : InRam vec { s with ram := ramAfterEntry ret p s }) (ev : Addr → Byte → Event) (cost : Nat) :
    takeInterrupt vec ret p ev cost s =
      { s with
        ram := ramAfterEntry ret p s
        sp := s.sp - 1 - 1 - 1
        flags := { s.flags with i := true }
        pc := mkAddr ((ramAfterEntry ret p s).read vec.toNat) ((ramAfterEntry ret p s).read (vec + 1).toNat)
        events := ev ret p :: s.events
        cycles := s.cycles + cost } := by
  have hu : setI (push p (pushAddr ret s)) =
      { s with ram := ramAfterEntry ret p s, sp := s.sp - 1 - 1 - 1, flags := { s.flags with i := true } } := by
    simp [push_eq, pushAddr_eq, setI, ramAfterEntry]
  simp only [takeInterrupt, hu]
  rw [memRead16_inRam (s := { s with
    ram := ramAfterEntry ret p s, sp := s.sp - 1 - 1 - 1, flags := { s.flags with i := true } }) h]
  rfl

/-- The return from an interrupt, all of it (R312). -/
theorem returnFromInterrupt_eq (s : State) :
    returnFromInterrupt s =
      { s with
        flags := flagsOfP (s.ram.read (256 + (s.sp + 1).toNat))
        sp := s.sp + 1 + 1 + 1
        pc := mkAddr (s.ram.read (256 + (s.sp + 1 + 1).toNat)) (s.ram.read (256 + (s.sp + 1 + 1 + 1).toNat)) } := by
  simp [returnFromInterrupt, pull_eq, pullAddr_eq, setP]

/-- The return from a subroutine, all of it (R311). -/
theorem returnFromSubroutine_eq (s : State) :
    returnFromSubroutine s =
      { s with
        sp := s.sp + 1 + 1
        pc := mkAddr (s.ram.read (256 + (s.sp + 1).toNat)) (s.ram.read (256 + (s.sp + 1 + 1).toNat)) + 1 } := by
  simp [returnFromSubroutine, pullAddr_eq]

/-- The reset step with its vector in RAM, all of it (R402). -/
theorem doReset_eq {s : State} (h : InRam s.params.vecReset s) :
    doReset s =
      { s with
        resetPending := false
        nmiPending := false
        irqPending := false
        flags := { s.flags with i := true }
        pc := mkAddr (s.ram.read s.params.vecReset.toNat) (s.ram.read (s.params.vecReset + 1).toNat)
        mode := .running
        events := .reset :: s.events
        cycles := s.cycles + s.params.resetCycles } := by
  simp only [doReset, setI]
  rw [memRead16_inRam (s := { s with
    resetPending := false, nmiPending := false, irqPending := false, flags := { s.flags with i := true } }) h]
  rfl

/-- The flags a pushed status byte gives back are the flags it was made of (R43, R44). -/
@[simp] theorem flagsOfP_getP (f : Flags) : flagsOfP (getP f) = f := by
  obtain ⟨c, z, i, d, v, n⟩ := f
  revert c z i d v n
  decide

/-! ## The shapes of a meaning -/

theorem readThen_next {e : Ea} {base : Nat} {f : Byte → State → State} {s t : State} :
    readThen e base f s = .next t ↔ t = (f (memRead e.addr s).1 (memRead e.addr s).2).addCycles (e.cost base) := by
  simp [readThen, complete, eq_comm]

theorem storeAt_next {e : Ea} {cost : Nat} {v : Byte} {s t : State} :
    storeAt e cost v s = .next t ↔ t = (memWrite e.addr v s).addCycles cost := by
  simp [storeAt, complete, eq_comm]

theorem modifyAt_next {e : Ea} {cost : Nat} {f : Byte → State → Byte × State} {k : Byte → State → State} {s t : State} :
    modifyAt e cost f k s = .next t ↔
      t = (k (f (memRead e.addr s).1 (memRead e.addr s).2).1
        (memWrite e.addr (f (memRead e.addr s).1 (memRead e.addr s).2).1
          (f (memRead e.addr s).1 (memRead e.addr s).2).2)).addCycles cost := by
  simp [modifyAt, complete, eq_comm]

/-- A branch completes: not taken, or with the PC at the target (R300). -/
theorem branchIf_eq (cond : Bool) (off : Int) (s : State) :
    branchIf cond off s =
      .next (if cond then
          State.addCycles (if pagesDiffer s.pc (branchTarget s.pc off) then 4 else 3)
            { s with pc := branchTarget s.pc off }
        else s.addCycles 2) := by
  cases cond <;> simp [branchIf, complete]

/-- An illegal opcode completes if its rule does. -/
theorem ifInIllegalSet_next {op : Byte} {f : State → Result} {s : State} (h : ∃ t, f s = .next t) :
    ∃ t, ifInIllegalSet op f s = .next t := by
  unfold ifInIllegalSet
  split
  · exact h
  · exact ⟨_, rfl⟩

/-! ## The canonical form of the memories (R50) -/

theorem shadowOffset_lt {a : Addr} {s : State} (h : isIO a s = true) : shadowOffset a < shadowSize := by
  have := isIO_range h
  simp only [shadowOffset, ioLo, shadowSize]
  omega

/-- The canonical form is a matter of the two memories alone. -/
theorem memoryInv_congr {s t : State} (hr : t.ram = s.ram) (hs : t.shadow = s.shadow) (h : MemoryInv s) : MemoryInv t := by
  unfold MemoryInv
  rw [hr, hs]
  exact h

theorem memoryInv_memRead {s : State} (h : MemoryInv s) (a : Addr) : MemoryInv (memRead a s).2 :=
  memoryInv_congr (by simp) (by simp) h

theorem memoryInv_storeRam {s : State} (h : MemoryInv s) (a : Addr) (v : Byte) : MemoryInv (storeRam a v s) :=
  ⟨Memory.wf_write h.1 a.isLt, h.2⟩

theorem memoryInv_memWrite {s : State} (h : MemoryInv s) (a : Addr) (v : Byte) : MemoryInv (memWrite a v s) := by
  refine ⟨?_, ?_⟩
  · rw [memWrite_ram_field]
    split
    · exact h.1
    · exact Memory.wf_write h.1 a.isLt
  · rw [memWrite_shadow_field]
    split
    · exact Memory.wf_write h.2 (shadowOffset_lt ‹_›)
    · exact h.2

theorem memoryInv_push {s : State} (h : MemoryInv s) (v : Byte) : MemoryInv (push v s) :=
  memoryInv_congr rfl rfl (memoryInv_memWrite h (stackAddr s.sp) v)

theorem memoryInv_pushAddr {s : State} (h : MemoryInv s) (a : Addr) : MemoryInv (pushAddr a s) :=
  memoryInv_push (memoryInv_push h _) _

theorem memoryInv_takeInterrupt {s : State} (h : MemoryInv s) (vec ret : Addr) (p : Byte) (ev : Addr → Byte → Event)
    (cost : Nat) : MemoryInv (takeInterrupt vec ret p ev cost s) :=
  memoryInv_congr (by simp [takeInterrupt]) (by simp [takeInterrupt]) (memoryInv_push (memoryInv_pushAddr h ret) p)

theorem memoryInv_applyTrap {s : State} (h : MemoryInv s) (r : Config.TrapResult) : MemoryInv (applyTrap r s) := by
  refine ⟨Memory.wf_writeAll h.1 fun w hw => ?_, Memory.wf_writeAll h.2 fun w hw => ?_⟩
  · obtain ⟨v, -, rfl⟩ := List.mem_map.1 hw
    exact v.1.isLt
  · obtain ⟨v, -, rfl⟩ := List.mem_map.1 hw
    exact v.1.isLt

theorem memoryInv_callTrap {s : State} (h : MemoryInv s) (a : Addr) : MemoryInv (callTrap a s) := by
  unfold callTrap
  split
  · exact memoryInv_applyTrap h _
  · exact h

end Sys2Proof.Machine
end

