-- ==== Sys2Proof/Laws/PerInstr.lean ====
section
/-!
SUPPORT. Laws/PerInstr.lean: for each constructor of Instr, that its encoding has the length of its opcode (R130).
-/

namespace Sys2Proof.Laws.Length

/-- A well-formed instruction is encoded in as many bytes as its opcode's length (R130). -/
def Statement (i : Instr) : Prop := WellFormed i → (encode i).length = opcodeLength (opcodeOf i)

/-- The opcodes of a list of rows have a length. -/
theorem op_length {n : Nat} {l : List Byte} {op : Byte} (hl : ∀ o ∈ l, n = opcodeLength o) (h : l.contains op = true) :
    n = opcodeLength op :=
  hl op (by simpa using h)

theorem brk : Statement .brk := fun _ => rfl
theorem oraIzx (zp : Byte) : Statement (.oraIzx zp) := fun _ => rfl
theorem jam (op : Byte) : Statement (.jam op) :=
  fun h => op_length (n := 1) (by decide) h
theorem sloIzx (zp : Byte) : Statement (.sloIzx zp) := fun _ => rfl
theorem nopZp (op : Byte) (zp : Byte) : Statement (.nopZp op zp) :=
  fun h => op_length (n := 2) (by decide) h
theorem oraZp (zp : Byte) : Statement (.oraZp zp) := fun _ => rfl
theorem aslZp (zp : Byte) : Statement (.aslZp zp) := fun _ => rfl
theorem sloZp (zp : Byte) : Statement (.sloZp zp) := fun _ => rfl
theorem php : Statement .php := fun _ => rfl
theorem oraImm (v : Byte) : Statement (.oraImm v) := fun _ => rfl
theorem aslAcc : Statement .aslAcc := fun _ => rfl
theorem ancImm (op : Byte) (v : Byte) : Statement (.ancImm op v) :=
  fun h => op_length (n := 2) (by decide) h
theorem nopAbs (a : Addr) : Statement (.nopAbs a) := fun _ => rfl
theorem oraAbs (a : Addr) : Statement (.oraAbs a) := fun _ => rfl
theorem aslAbs (a : Addr) : Statement (.aslAbs a) := fun _ => rfl
theorem sloAbs (a : Addr) : Statement (.sloAbs a) := fun _ => rfl
theorem bpl (off : Int) : Statement (.bpl off) := fun _ => rfl
theorem oraIzy (zp : Byte) : Statement (.oraIzy zp) := fun _ => rfl
theorem sloIzy (zp : Byte) : Statement (.sloIzy zp) := fun _ => rfl
theorem nopZpx (op : Byte) (zp : Byte) : Statement (.nopZpx op zp) :=
  fun h => op_length (n := 2) (by decide) h
theorem oraZpx (zp : Byte) : Statement (.oraZpx zp) := fun _ => rfl
theorem aslZpx (zp : Byte) : Statement (.aslZpx zp) := fun _ => rfl
theorem sloZpx (zp : Byte) : Statement (.sloZpx zp) := fun _ => rfl
theorem clc : Statement .clc := fun _ => rfl
theorem oraAbsy (a : Addr) : Statement (.oraAbsy a) := fun _ => rfl
theorem nopImp (op : Byte) : Statement (.nopImp op) :=
  fun h => op_length (n := 1) (by decide) h
theorem sloAbsy (a : Addr) : Statement (.sloAbsy a) := fun _ => rfl
theorem nopAbsx (op : Byte) (a : Addr) : Statement (.nopAbsx op a) :=
  fun h => op_length (n := 3) (by decide) h
theorem oraAbsx (a : Addr) : Statement (.oraAbsx a) := fun _ => rfl
theorem aslAbsx (a : Addr) : Statement (.aslAbsx a) := fun _ => rfl
theorem sloAbsx (a : Addr) : Statement (.sloAbsx a) := fun _ => rfl
theorem jsrAbs (a : Addr) : Statement (.jsrAbs a) := fun _ => rfl
theorem andIzx (zp : Byte) : Statement (.andIzx zp) := fun _ => rfl
theorem rlaIzx (zp : Byte) : Statement (.rlaIzx zp) := fun _ => rfl
theorem bitZp (zp : Byte) : Statement (.bitZp zp) := fun _ => rfl
theorem andZp (zp : Byte) : Statement (.andZp zp) := fun _ => rfl
theorem rolZp (zp : Byte) : Statement (.rolZp zp) := fun _ => rfl
theorem rlaZp (zp : Byte) : Statement (.rlaZp zp) := fun _ => rfl
theorem plp : Statement .plp := fun _ => rfl
theorem andImm (v : Byte) : Statement (.andImm v) := fun _ => rfl
theorem rolAcc : Statement .rolAcc := fun _ => rfl
theorem bitAbs (a : Addr) : Statement (.bitAbs a) := fun _ => rfl
theorem andAbs (a : Addr) : Statement (.andAbs a) := fun _ => rfl
theorem rolAbs (a : Addr) : Statement (.rolAbs a) := fun _ => rfl
theorem rlaAbs (a : Addr) : Statement (.rlaAbs a) := fun _ => rfl
theorem bmi (off : Int) : Statement (.bmi off) := fun _ => rfl
theorem andIzy (zp : Byte) : Statement (.andIzy zp) := fun _ => rfl
theorem rlaIzy (zp : Byte) : Statement (.rlaIzy zp) := fun _ => rfl
theorem andZpx (zp : Byte) : Statement (.andZpx zp) := fun _ => rfl
theorem rolZpx (zp : Byte) : Statement (.rolZpx zp) := fun _ => rfl
theorem rlaZpx (zp : Byte) : Statement (.rlaZpx zp) := fun _ => rfl
theorem sec : Statement .sec := fun _ => rfl
theorem andAbsy (a : Addr) : Statement (.andAbsy a) := fun _ => rfl
theorem rlaAbsy (a : Addr) : Statement (.rlaAbsy a) := fun _ => rfl
theorem andAbsx (a : Addr) : Statement (.andAbsx a) := fun _ => rfl
theorem rolAbsx (a : Addr) : Statement (.rolAbsx a) := fun _ => rfl
theorem rlaAbsx (a : Addr) : Statement (.rlaAbsx a) := fun _ => rfl
theorem rti : Statement .rti := fun _ => rfl
theorem eorIzx (zp : Byte) : Statement (.eorIzx zp) := fun _ => rfl
theorem sreIzx (zp : Byte) : Statement (.sreIzx zp) := fun _ => rfl
theorem eorZp (zp : Byte) : Statement (.eorZp zp) := fun _ => rfl
theorem lsrZp (zp : Byte) : Statement (.lsrZp zp) := fun _ => rfl
theorem sreZp (zp : Byte) : Statement (.sreZp zp) := fun _ => rfl
theorem pha : Statement .pha := fun _ => rfl
theorem eorImm (v : Byte) : Statement (.eorImm v) := fun _ => rfl
theorem lsrAcc : Statement .lsrAcc := fun _ => rfl
theorem alrImm (v : Byte) : Statement (.alrImm v) := fun _ => rfl
theorem jmpAbs (a : Addr) : Statement (.jmpAbs a) := fun _ => rfl
theorem eorAbs (a : Addr) : Statement (.eorAbs a) := fun _ => rfl
theorem lsrAbs (a : Addr) : Statement (.lsrAbs a) := fun _ => rfl
theorem sreAbs (a : Addr) : Statement (.sreAbs a) := fun _ => rfl
theorem bvc (off : Int) : Statement (.bvc off) := fun _ => rfl
theorem eorIzy (zp : Byte) : Statement (.eorIzy zp) := fun _ => rfl
theorem sreIzy (zp : Byte) : Statement (.sreIzy zp) := fun _ => rfl
theorem eorZpx (zp : Byte) : Statement (.eorZpx zp) := fun _ => rfl
theorem lsrZpx (zp : Byte) : Statement (.lsrZpx zp) := fun _ => rfl
theorem sreZpx (zp : Byte) : Statement (.sreZpx zp) := fun _ => rfl
theorem cli : Statement .cli := fun _ => rfl
theorem eorAbsy (a : Addr) : Statement (.eorAbsy a) := fun _ => rfl
theorem sreAbsy (a : Addr) : Statement (.sreAbsy a) := fun _ => rfl
theorem eorAbsx (a : Addr) : Statement (.eorAbsx a) := fun _ => rfl
theorem lsrAbsx (a : Addr) : Statement (.lsrAbsx a) := fun _ => rfl
theorem sreAbsx (a : Addr) : Statement (.sreAbsx a) := fun _ => rfl
theorem rts : Statement .rts := fun _ => rfl
theorem adcIzx (zp : Byte) : Statement (.adcIzx zp) := fun _ => rfl
theorem rraIzx (zp : Byte) : Statement (.rraIzx zp) := fun _ => rfl
theorem adcZp (zp : Byte) : Statement (.adcZp zp) := fun _ => rfl
theorem rorZp (zp : Byte) : Statement (.rorZp zp) := fun _ => rfl
theorem rraZp (zp : Byte) : Statement (.rraZp zp) := fun _ => rfl
theorem pla : Statement .pla := fun _ => rfl
theorem adcImm (v : Byte) : Statement (.adcImm v) := fun _ => rfl
theorem rorAcc : Statement .rorAcc := fun _ => rfl
theorem arrImm (v : Byte) : Statement (.arrImm v) := fun _ => rfl
theorem jmpInd (a : Addr) : Statement (.jmpInd a) := fun _ => rfl
theorem adcAbs (a : Addr) : Statement (.adcAbs a) := fun _ => rfl
theorem rorAbs (a : Addr) : Statement (.rorAbs a) := fun _ => rfl
theorem rraAbs (a : Addr) : Statement (.rraAbs a) := fun _ => rfl
theorem bvs (off : Int) : Statement (.bvs off) := fun _ => rfl
theorem adcIzy (zp : Byte) : Statement (.adcIzy zp) := fun _ => rfl
theorem rraIzy (zp : Byte) : Statement (.rraIzy zp) := fun _ => rfl
theorem adcZpx (zp : Byte) : Statement (.adcZpx zp) := fun _ => rfl
theorem rorZpx (zp : Byte) : Statement (.rorZpx zp) := fun _ => rfl
theorem rraZpx (zp : Byte) : Statement (.rraZpx zp) := fun _ => rfl
theorem sei : Statement .sei := fun _ => rfl
theorem adcAbsy (a : Addr) : Statement (.adcAbsy a) := fun _ => rfl
theorem rraAbsy (a : Addr) : Statement (.rraAbsy a) := fun _ => rfl
theorem adcAbsx (a : Addr) : Statement (.adcAbsx a) := fun _ => rfl
theorem rorAbsx (a : Addr) : Statement (.rorAbsx a) := fun _ => rfl
theorem rraAbsx (a : Addr) : Statement (.rraAbsx a) := fun _ => rfl
theorem nopImm (op : Byte) (v : Byte) : Statement (.nopImm op v) :=
  fun h => op_length (n := 2) (by decide) h
theorem staIzx (zp : Byte) : Statement (.staIzx zp) := fun _ => rfl
theorem saxIzx (zp : Byte) : Statement (.saxIzx zp) := fun _ => rfl
theorem styZp (zp : Byte) : Statement (.styZp zp) := fun _ => rfl
theorem staZp (zp : Byte) : Statement (.staZp zp) := fun _ => rfl
theorem stxZp (zp : Byte) : Statement (.stxZp zp) := fun _ => rfl
theorem saxZp (zp : Byte) : Statement (.saxZp zp) := fun _ => rfl
theorem dey : Statement .dey := fun _ => rfl
theorem txa : Statement .txa := fun _ => rfl
theorem aneImm (v : Byte) : Statement (.aneImm v) := fun _ => rfl
theorem styAbs (a : Addr) : Statement (.styAbs a) := fun _ => rfl
theorem staAbs (a : Addr) : Statement (.staAbs a) := fun _ => rfl
theorem stxAbs (a : Addr) : Statement (.stxAbs a) := fun _ => rfl
theorem saxAbs (a : Addr) : Statement (.saxAbs a) := fun _ => rfl
theorem bcc (off : Int) : Statement (.bcc off) := fun _ => rfl
theorem staIzy (zp : Byte) : Statement (.staIzy zp) := fun _ => rfl
theorem shaIzy (zp : Byte) : Statement (.shaIzy zp) := fun _ => rfl
theorem styZpx (zp : Byte) : Statement (.styZpx zp) := fun _ => rfl
theorem staZpx (zp : Byte) : Statement (.staZpx zp) := fun _ => rfl
theorem stxZpy (zp : Byte) : Statement (.stxZpy zp) := fun _ => rfl
theorem saxZpy (zp : Byte) : Statement (.saxZpy zp) := fun _ => rfl
theorem tya : Statement .tya := fun _ => rfl
theorem staAbsy (a : Addr) : Statement (.staAbsy a) := fun _ => rfl
theorem txs : Statement .txs := fun _ => rfl
theorem tasAbsy (a : Addr) : Statement (.tasAbsy a) := fun _ => rfl
theorem shyAbsx (a : Addr) : Statement (.shyAbsx a) := fun _ => rfl
theorem staAbsx (a : Addr) : Statement (.staAbsx a) := fun _ => rfl
theorem shxAbsy (a : Addr) : Statement (.shxAbsy a) := fun _ => rfl
theorem shaAbsy (a : Addr) : Statement (.shaAbsy a) := fun _ => rfl
theorem ldyImm (v : Byte) : Statement (.ldyImm v) := fun _ => rfl
theorem ldaIzx (zp : Byte) : Statement (.ldaIzx zp) := fun _ => rfl
theorem ldxImm (v : Byte) : Statement (.ldxImm v) := fun _ => rfl
theorem laxIzx (zp : Byte) : Statement (.laxIzx zp) := fun _ => rfl
theorem ldyZp (zp : Byte) : Statement (.ldyZp zp) := fun _ => rfl
theorem ldaZp (zp : Byte) : Statement (.ldaZp zp) := fun _ => rfl
theorem ldxZp (zp : Byte) : Statement (.ldxZp zp) := fun _ => rfl
theorem laxZp (zp : Byte) : Statement (.laxZp zp) := fun _ => rfl
theorem tay : Statement .tay := fun _ => rfl
theorem ldaImm (v : Byte) : Statement (.ldaImm v) := fun _ => rfl
theorem tax : Statement .tax := fun _ => rfl
theorem lxaImm (v : Byte) : Statement (.lxaImm v) := fun _ => rfl
theorem ldyAbs (a : Addr) : Statement (.ldyAbs a) := fun _ => rfl
theorem ldaAbs (a : Addr) : Statement (.ldaAbs a) := fun _ => rfl
theorem ldxAbs (a : Addr) : Statement (.ldxAbs a) := fun _ => rfl
theorem laxAbs (a : Addr) : Statement (.laxAbs a) := fun _ => rfl
theorem bcs (off : Int) : Statement (.bcs off) := fun _ => rfl
theorem ldaIzy (zp : Byte) : Statement (.ldaIzy zp) := fun _ => rfl
theorem laxIzy (zp : Byte) : Statement (.laxIzy zp) := fun _ => rfl
theorem ldyZpx (zp : Byte) : Statement (.ldyZpx zp) := fun _ => rfl
theorem ldaZpx (zp : Byte) : Statement (.ldaZpx zp) := fun _ => rfl
theorem ldxZpy (zp : Byte) : Statement (.ldxZpy zp) := fun _ => rfl
theorem laxZpy (zp : Byte) : Statement (.laxZpy zp) := fun _ => rfl
theorem clv : Statement .clv := fun _ => rfl
theorem ldaAbsy (a : Addr) : Statement (.ldaAbsy a) := fun _ => rfl
theorem tsx : Statement .tsx := fun _ => rfl
theorem lasAbsy (a : Addr) : Statement (.lasAbsy a) := fun _ => rfl
theorem ldyAbsx (a : Addr) : Statement (.ldyAbsx a) := fun _ => rfl
theorem ldaAbsx (a : Addr) : Statement (.ldaAbsx a) := fun _ => rfl
theorem ldxAbsy (a : Addr) : Statement (.ldxAbsy a) := fun _ => rfl
theorem laxAbsy (a : Addr) : Statement (.laxAbsy a) := fun _ => rfl
theorem cpyImm (v : Byte) : Statement (.cpyImm v) := fun _ => rfl
theorem cmpIzx (zp : Byte) : Statement (.cmpIzx zp) := fun _ => rfl
theorem dcpIzx (zp : Byte) : Statement (.dcpIzx zp) := fun _ => rfl
theorem cpyZp (zp : Byte) : Statement (.cpyZp zp) := fun _ => rfl
theorem cmpZp (zp : Byte) : Statement (.cmpZp zp) := fun _ => rfl
theorem decZp (zp : Byte) : Statement (.decZp zp) := fun _ => rfl
theorem dcpZp (zp : Byte) : Statement (.dcpZp zp) := fun _ => rfl
theorem iny : Statement .iny := fun _ => rfl
theorem cmpImm (v : Byte) : Statement (.cmpImm v) := fun _ => rfl
theorem dex : Statement .dex := fun _ => rfl
theorem sbxImm (v : Byte) : Statement (.sbxImm v) := fun _ => rfl
theorem cpyAbs (a : Addr) : Statement (.cpyAbs a) := fun _ => rfl
theorem cmpAbs (a : Addr) : Statement (.cmpAbs a) := fun _ => rfl
theorem decAbs (a : Addr) : Statement (.decAbs a) := fun _ => rfl
theorem dcpAbs (a : Addr) : Statement (.dcpAbs a) := fun _ => rfl
theorem bne (off : Int) : Statement (.bne off) := fun _ => rfl
theorem cmpIzy (zp : Byte) : Statement (.cmpIzy zp) := fun _ => rfl
theorem dcpIzy (zp : Byte) : Statement (.dcpIzy zp) := fun _ => rfl
theorem cmpZpx (zp : Byte) : Statement (.cmpZpx zp) := fun _ => rfl
theorem decZpx (zp : Byte) : Statement (.decZpx zp) := fun _ => rfl
theorem dcpZpx (zp : Byte) : Statement (.dcpZpx zp) := fun _ => rfl
theorem cld : Statement .cld := fun _ => rfl
theorem cmpAbsy (a : Addr) : Statement (.cmpAbsy a) := fun _ => rfl
theorem dcpAbsy (a : Addr) : Statement (.dcpAbsy a) := fun _ => rfl
theorem cmpAbsx (a : Addr) : Statement (.cmpAbsx a) := fun _ => rfl
theorem decAbsx (a : Addr) : Statement (.decAbsx a) := fun _ => rfl
theorem dcpAbsx (a : Addr) : Statement (.dcpAbsx a) := fun _ => rfl
theorem cpxImm (v : Byte) : Statement (.cpxImm v) := fun _ => rfl
theorem sbcIzx (zp : Byte) : Statement (.sbcIzx zp) := fun _ => rfl
theorem iscIzx (zp : Byte) : Statement (.iscIzx zp) := fun _ => rfl
theorem cpxZp (zp : Byte) : Statement (.cpxZp zp) := fun _ => rfl
theorem sbcZp (zp : Byte) : Statement (.sbcZp zp) := fun _ => rfl
theorem incZp (zp : Byte) : Statement (.incZp zp) := fun _ => rfl
theorem iscZp (zp : Byte) : Statement (.iscZp zp) := fun _ => rfl
theorem inx : Statement .inx := fun _ => rfl
theorem sbcImm (v : Byte) : Statement (.sbcImm v) := fun _ => rfl
theorem nop : Statement .nop := fun _ => rfl
theorem usbcImm (v : Byte) : Statement (.usbcImm v) := fun _ => rfl
theorem cpxAbs (a : Addr) : Statement (.cpxAbs a) := fun _ => rfl
theorem sbcAbs (a : Addr) : Statement (.sbcAbs a) := fun _ => rfl
theorem incAbs (a : Addr) : Statement (.incAbs a) := fun _ => rfl
theorem iscAbs (a : Addr) : Statement (.iscAbs a) := fun _ => rfl
theorem beq (off : Int) : Statement (.beq off) := fun _ => rfl
theorem sbcIzy (zp : Byte) : Statement (.sbcIzy zp) := fun _ => rfl
theorem iscIzy (zp : Byte) : Statement (.iscIzy zp) := fun _ => rfl
theorem sbcZpx (zp : Byte) : Statement (.sbcZpx zp) := fun _ => rfl
theorem incZpx (zp : Byte) : Statement (.incZpx zp) := fun _ => rfl
theorem iscZpx (zp : Byte) : Statement (.iscZpx zp) := fun _ => rfl
theorem sed : Statement .sed := fun _ => rfl
theorem sbcAbsy (a : Addr) : Statement (.sbcAbsy a) := fun _ => rfl
theorem iscAbsy (a : Addr) : Statement (.iscAbsy a) := fun _ => rfl
theorem sbcAbsx (a : Addr) : Statement (.sbcAbsx a) := fun _ => rfl
theorem incAbsx (a : Addr) : Statement (.incAbsx a) := fun _ => rfl
theorem iscAbsx (a : Addr) : Statement (.iscAbsx a) := fun _ => rfl

end Sys2Proof.Laws.Length
end

