-- ==== Sys2Proof/Tests/Slice0.lean ====
section
/-!
SUPPORT. Tests/Slice0.lean: the check of ill-formed terms, the decoding of every row of the opcode map, one or two steps
per instruction with the results of 95_test_vectors.md, and for each obligation with hypotheses a witness that meets them.
-/

namespace Sys2Proof.Tests

open Sys2Proof.Machine Sys2Proof.Safety

set_option maxRecDepth 100000

/-! ## Well-formedness: each check refuses a term -/

theorem test_wf_bpl :
    (Instr.bpl 128).wf = false ∧ (Instr.bpl (-129)).wf = false ∧ (Instr.bpl 127).wf = true ∧ (Instr.bpl (-128)).wf = true := by
  decide
theorem test_wf_bmi :
    (Instr.bmi 128).wf = false ∧ (Instr.bmi (-129)).wf = false ∧ (Instr.bmi 127).wf = true ∧ (Instr.bmi (-128)).wf = true := by
  decide
theorem test_wf_bvc :
    (Instr.bvc 128).wf = false ∧ (Instr.bvc (-129)).wf = false ∧ (Instr.bvc 127).wf = true ∧ (Instr.bvc (-128)).wf = true := by
  decide
theorem test_wf_bvs :
    (Instr.bvs 128).wf = false ∧ (Instr.bvs (-129)).wf = false ∧ (Instr.bvs 127).wf = true ∧ (Instr.bvs (-128)).wf = true := by
  decide
theorem test_wf_bcc :
    (Instr.bcc 128).wf = false ∧ (Instr.bcc (-129)).wf = false ∧ (Instr.bcc 127).wf = true ∧ (Instr.bcc (-128)).wf = true := by
  decide
theorem test_wf_bcs :
    (Instr.bcs 128).wf = false ∧ (Instr.bcs (-129)).wf = false ∧ (Instr.bcs 127).wf = true ∧ (Instr.bcs (-128)).wf = true := by
  decide
theorem test_wf_bne :
    (Instr.bne 128).wf = false ∧ (Instr.bne (-129)).wf = false ∧ (Instr.bne 127).wf = true ∧ (Instr.bne (-128)).wf = true := by
  decide
theorem test_wf_beq :
    (Instr.beq 128).wf = false ∧ (Instr.beq (-129)).wf = false ∧ (Instr.beq 127).wf = true ∧ (Instr.beq (-128)).wf = true := by
  decide
theorem test_wf_jam : (Instr.jam 0x03).wf = false ∧ (Instr.jam 0xF1).wf = false ∧
    (Instr.jam 0xF2).wf = true := by
  decide
theorem test_wf_nopZp : (Instr.nopZp 0x05 0).wf = false ∧ (Instr.nopZp 0x63 0).wf = false ∧
    (Instr.nopZp 0x64 0).wf = true := by
  decide
theorem test_wf_ancImm : (Instr.ancImm 0x0C 0).wf = false ∧ (Instr.ancImm 0x2A 0).wf = false ∧
    (Instr.ancImm 0x2B 0).wf = true := by
  decide
theorem test_wf_nopZpx : (Instr.nopZpx 0x15 0).wf = false ∧ (Instr.nopZpx 0xF3 0).wf = false ∧
    (Instr.nopZpx 0xF4 0).wf = true := by
  decide
theorem test_wf_nopImp : (Instr.nopImp 0x1B).wf = false ∧ (Instr.nopImp 0xF9).wf = false ∧
    (Instr.nopImp 0xFA).wf = true := by
  decide
theorem test_wf_nopAbsx : (Instr.nopAbsx 0x1D 0).wf = false ∧ (Instr.nopAbsx 0xFB 0).wf = false ∧
    (Instr.nopAbsx 0xFC 0).wf = true := by
  decide
theorem test_wf_nopImm : (Instr.nopImm 0x81 0).wf = false ∧ (Instr.nopImm 0xE1 0).wf = false ∧
    (Instr.nopImm 0xE2 0).wf = true := by
  decide

/-! ## Decoding: the 256 rows of R151, the operand bytes 0x34 0x12, and a negative branch offset -/

/-- Every word of the list decodes to the instruction beside it, with nothing left over, and is that instruction's encoding. -/
def decodesTo (rows : List (List Byte × Instr)) : Bool :=
  rows.all fun (w, i) =>
    (match decode w with
      | .ok (j, rest) => decide (j = i) && rest.isEmpty
      | .error _ => false) && decide (encode i = w) && i.wf

theorem test_decode_row0 :
    decodesTo [
    ([0x00], .brk), ([0x01, 0x34], .oraIzx 0x34), ([0x02], .jam 0x02), ([0x03, 0x34], .sloIzx 0x34),
    ([0x04, 0x34], .nopZp 0x04 0x34), ([0x05, 0x34], .oraZp 0x34), ([0x06, 0x34], .aslZp 0x34), ([0x07, 0x34], .sloZp 0x34),
    ([0x08], .php), ([0x09, 0x34], .oraImm 0x34), ([0x0A], .aslAcc), ([0x0B, 0x34], .ancImm 0x0B 0x34),
    ([0x0C, 0x34, 0x12], .nopAbs 0x1234), ([0x0D, 0x34, 0x12], .oraAbs 0x1234), ([0x0E, 0x34, 0x12], .aslAbs 0x1234), ([0x0F, 0x34, 0x12], .sloAbs 0x1234)] = true := by decide
theorem test_decode_row1 :
    decodesTo [
    ([0x10, 0xFE], .bpl (-2)), ([0x11, 0x34], .oraIzy 0x34), ([0x12], .jam 0x12), ([0x13, 0x34], .sloIzy 0x34),
    ([0x14, 0x34], .nopZpx 0x14 0x34), ([0x15, 0x34], .oraZpx 0x34), ([0x16, 0x34], .aslZpx 0x34), ([0x17, 0x34], .sloZpx 0x34),
    ([0x18], .clc), ([0x19, 0x34, 0x12], .oraAbsy 0x1234), ([0x1A], .nopImp 0x1A), ([0x1B, 0x34, 0x12], .sloAbsy 0x1234),
    ([0x1C, 0x34, 0x12], .nopAbsx 0x1C 0x1234), ([0x1D, 0x34, 0x12], .oraAbsx 0x1234), ([0x1E, 0x34, 0x12], .aslAbsx 0x1234), ([0x1F, 0x34, 0x12], .sloAbsx 0x1234)] = true := by decide
theorem test_decode_row2 :
    decodesTo [
    ([0x20, 0x34, 0x12], .jsrAbs 0x1234), ([0x21, 0x34], .andIzx 0x34), ([0x22], .jam 0x22), ([0x23, 0x34], .rlaIzx 0x34),
    ([0x24, 0x34], .bitZp 0x34), ([0x25, 0x34], .andZp 0x34), ([0x26, 0x34], .rolZp 0x34), ([0x27, 0x34], .rlaZp 0x34),
    ([0x28], .plp), ([0x29, 0x34], .andImm 0x34), ([0x2A], .rolAcc), ([0x2B, 0x34], .ancImm 0x2B 0x34),
    ([0x2C, 0x34, 0x12], .bitAbs 0x1234), ([0x2D, 0x34, 0x12], .andAbs 0x1234), ([0x2E, 0x34, 0x12], .rolAbs 0x1234), ([0x2F, 0x34, 0x12], .rlaAbs 0x1234)] = true := by decide
theorem test_decode_row3 :
    decodesTo [
    ([0x30, 0xFE], .bmi (-2)), ([0x31, 0x34], .andIzy 0x34), ([0x32], .jam 0x32), ([0x33, 0x34], .rlaIzy 0x34),
    ([0x34, 0x34], .nopZpx 0x34 0x34), ([0x35, 0x34], .andZpx 0x34), ([0x36, 0x34], .rolZpx 0x34), ([0x37, 0x34], .rlaZpx 0x34),
    ([0x38], .sec), ([0x39, 0x34, 0x12], .andAbsy 0x1234), ([0x3A], .nopImp 0x3A), ([0x3B, 0x34, 0x12], .rlaAbsy 0x1234),
    ([0x3C, 0x34, 0x12], .nopAbsx 0x3C 0x1234), ([0x3D, 0x34, 0x12], .andAbsx 0x1234), ([0x3E, 0x34, 0x12], .rolAbsx 0x1234), ([0x3F, 0x34, 0x12], .rlaAbsx 0x1234)] = true := by decide
theorem test_decode_row4 :
    decodesTo [
    ([0x40], .rti), ([0x41, 0x34], .eorIzx 0x34), ([0x42], .jam 0x42), ([0x43, 0x34], .sreIzx 0x34),
    ([0x44, 0x34], .nopZp 0x44 0x34), ([0x45, 0x34], .eorZp 0x34), ([0x46, 0x34], .lsrZp 0x34), ([0x47, 0x34], .sreZp 0x34),
    ([0x48], .pha), ([0x49, 0x34], .eorImm 0x34), ([0x4A], .lsrAcc), ([0x4B, 0x34], .alrImm 0x34),
    ([0x4C, 0x34, 0x12], .jmpAbs 0x1234), ([0x4D, 0x34, 0x12], .eorAbs 0x1234), ([0x4E, 0x34, 0x12], .lsrAbs 0x1234), ([0x4F, 0x34, 0x12], .sreAbs 0x1234)] = true := by decide
theorem test_decode_row5 :
    decodesTo [
    ([0x50, 0xFE], .bvc (-2)), ([0x51, 0x34], .eorIzy 0x34), ([0x52], .jam 0x52), ([0x53, 0x34], .sreIzy 0x34),
    ([0x54, 0x34], .nopZpx 0x54 0x34), ([0x55, 0x34], .eorZpx 0x34), ([0x56, 0x34], .lsrZpx 0x34), ([0x57, 0x34], .sreZpx 0x34),
    ([0x58], .cli), ([0x59, 0x34, 0x12], .eorAbsy 0x1234), ([0x5A], .nopImp 0x5A), ([0x5B, 0x34, 0x12], .sreAbsy 0x1234),
    ([0x5C, 0x34, 0x12], .nopAbsx 0x5C 0x1234), ([0x5D, 0x34, 0x12], .eorAbsx 0x1234), ([0x5E, 0x34, 0x12], .lsrAbsx 0x1234), ([0x5F, 0x34, 0x12], .sreAbsx 0x1234)] = true := by decide
theorem test_decode_row6 :
    decodesTo [
    ([0x60], .rts), ([0x61, 0x34], .adcIzx 0x34), ([0x62], .jam 0x62), ([0x63, 0x34], .rraIzx 0x34),
    ([0x64, 0x34], .nopZp 0x64 0x34), ([0x65, 0x34], .adcZp 0x34), ([0x66, 0x34], .rorZp 0x34), ([0x67, 0x34], .rraZp 0x34),
    ([0x68], .pla), ([0x69, 0x34], .adcImm 0x34), ([0x6A], .rorAcc), ([0x6B, 0x34], .arrImm 0x34),
    ([0x6C, 0x34, 0x12], .jmpInd 0x1234), ([0x6D, 0x34, 0x12], .adcAbs 0x1234), ([0x6E, 0x34, 0x12], .rorAbs 0x1234), ([0x6F, 0x34, 0x12], .rraAbs 0x1234)] = true := by decide
theorem test_decode_row7 :
    decodesTo [
    ([0x70, 0xFE], .bvs (-2)), ([0x71, 0x34], .adcIzy 0x34), ([0x72], .jam 0x72), ([0x73, 0x34], .rraIzy 0x34),
    ([0x74, 0x34], .nopZpx 0x74 0x34), ([0x75, 0x34], .adcZpx 0x34), ([0x76, 0x34], .rorZpx 0x34), ([0x77, 0x34], .rraZpx 0x34),
    ([0x78], .sei), ([0x79, 0x34, 0x12], .adcAbsy 0x1234), ([0x7A], .nopImp 0x7A), ([0x7B, 0x34, 0x12], .rraAbsy 0x1234),
    ([0x7C, 0x34, 0x12], .nopAbsx 0x7C 0x1234), ([0x7D, 0x34, 0x12], .adcAbsx 0x1234), ([0x7E, 0x34, 0x12], .rorAbsx 0x1234), ([0x7F, 0x34, 0x12], .rraAbsx 0x1234)] = true := by decide
theorem test_decode_row8 :
    decodesTo [
    ([0x80, 0x34], .nopImm 0x80 0x34), ([0x81, 0x34], .staIzx 0x34), ([0x82, 0x34], .nopImm 0x82 0x34), ([0x83, 0x34], .saxIzx 0x34),
    ([0x84, 0x34], .styZp 0x34), ([0x85, 0x34], .staZp 0x34), ([0x86, 0x34], .stxZp 0x34), ([0x87, 0x34], .saxZp 0x34),
    ([0x88], .dey), ([0x89, 0x34], .nopImm 0x89 0x34), ([0x8A], .txa), ([0x8B, 0x34], .aneImm 0x34),
    ([0x8C, 0x34, 0x12], .styAbs 0x1234), ([0x8D, 0x34, 0x12], .staAbs 0x1234), ([0x8E, 0x34, 0x12], .stxAbs 0x1234), ([0x8F, 0x34, 0x12], .saxAbs 0x1234)] = true := by decide
theorem test_decode_row9 :
    decodesTo [
    ([0x90, 0xFE], .bcc (-2)), ([0x91, 0x34], .staIzy 0x34), ([0x92], .jam 0x92), ([0x93, 0x34], .shaIzy 0x34),
    ([0x94, 0x34], .styZpx 0x34), ([0x95, 0x34], .staZpx 0x34), ([0x96, 0x34], .stxZpy 0x34), ([0x97, 0x34], .saxZpy 0x34),
    ([0x98], .tya), ([0x99, 0x34, 0x12], .staAbsy 0x1234), ([0x9A], .txs), ([0x9B, 0x34, 0x12], .tasAbsy 0x1234),
    ([0x9C, 0x34, 0x12], .shyAbsx 0x1234), ([0x9D, 0x34, 0x12], .staAbsx 0x1234), ([0x9E, 0x34, 0x12], .shxAbsy 0x1234), ([0x9F, 0x34, 0x12], .shaAbsy 0x1234)] = true := by decide
theorem test_decode_rowA :
    decodesTo [
    ([0xA0, 0x34], .ldyImm 0x34), ([0xA1, 0x34], .ldaIzx 0x34), ([0xA2, 0x34], .ldxImm 0x34), ([0xA3, 0x34], .laxIzx 0x34),
    ([0xA4, 0x34], .ldyZp 0x34), ([0xA5, 0x34], .ldaZp 0x34), ([0xA6, 0x34], .ldxZp 0x34), ([0xA7, 0x34], .laxZp 0x34),
    ([0xA8], .tay), ([0xA9, 0x34], .ldaImm 0x34), ([0xAA], .tax), ([0xAB, 0x34], .lxaImm 0x34),
    ([0xAC, 0x34, 0x12], .ldyAbs 0x1234), ([0xAD, 0x34, 0x12], .ldaAbs 0x1234), ([0xAE, 0x34, 0x12], .ldxAbs 0x1234), ([0xAF, 0x34, 0x12], .laxAbs 0x1234)] = true := by decide
theorem test_decode_rowB :
    decodesTo [
    ([0xB0, 0xFE], .bcs (-2)), ([0xB1, 0x34], .ldaIzy 0x34), ([0xB2], .jam 0xB2), ([0xB3, 0x34], .laxIzy 0x34),
    ([0xB4, 0x34], .ldyZpx 0x34), ([0xB5, 0x34], .ldaZpx 0x34), ([0xB6, 0x34], .ldxZpy 0x34), ([0xB7, 0x34], .laxZpy 0x34),
    ([0xB8], .clv), ([0xB9, 0x34, 0x12], .ldaAbsy 0x1234), ([0xBA], .tsx), ([0xBB, 0x34, 0x12], .lasAbsy 0x1234),
    ([0xBC, 0x34, 0x12], .ldyAbsx 0x1234), ([0xBD, 0x34, 0x12], .ldaAbsx 0x1234), ([0xBE, 0x34, 0x12], .ldxAbsy 0x1234), ([0xBF, 0x34, 0x12], .laxAbsy 0x1234)] = true := by decide
theorem test_decode_rowC :
    decodesTo [
    ([0xC0, 0x34], .cpyImm 0x34), ([0xC1, 0x34], .cmpIzx 0x34), ([0xC2, 0x34], .nopImm 0xC2 0x34), ([0xC3, 0x34], .dcpIzx 0x34),
    ([0xC4, 0x34], .cpyZp 0x34), ([0xC5, 0x34], .cmpZp 0x34), ([0xC6, 0x34], .decZp 0x34), ([0xC7, 0x34], .dcpZp 0x34),
    ([0xC8], .iny), ([0xC9, 0x34], .cmpImm 0x34), ([0xCA], .dex), ([0xCB, 0x34], .sbxImm 0x34),
    ([0xCC, 0x34, 0x12], .cpyAbs 0x1234), ([0xCD, 0x34, 0x12], .cmpAbs 0x1234), ([0xCE, 0x34, 0x12], .decAbs 0x1234), ([0xCF, 0x34, 0x12], .dcpAbs 0x1234)] = true := by decide
theorem test_decode_rowD :
    decodesTo [
    ([0xD0, 0xFE], .bne (-2)), ([0xD1, 0x34], .cmpIzy 0x34), ([0xD2], .jam 0xD2), ([0xD3, 0x34], .dcpIzy 0x34),
    ([0xD4, 0x34], .nopZpx 0xD4 0x34), ([0xD5, 0x34], .cmpZpx 0x34), ([0xD6, 0x34], .decZpx 0x34), ([0xD7, 0x34], .dcpZpx 0x34),
    ([0xD8], .cld), ([0xD9, 0x34, 0x12], .cmpAbsy 0x1234), ([0xDA], .nopImp 0xDA), ([0xDB, 0x34, 0x12], .dcpAbsy 0x1234),
    ([0xDC, 0x34, 0x12], .nopAbsx 0xDC 0x1234), ([0xDD, 0x34, 0x12], .cmpAbsx 0x1234), ([0xDE, 0x34, 0x12], .decAbsx 0x1234), ([0xDF, 0x34, 0x12], .dcpAbsx 0x1234)] = true := by decide
theorem test_decode_rowE :
    decodesTo [
    ([0xE0, 0x34], .cpxImm 0x34), ([0xE1, 0x34], .sbcIzx 0x34), ([0xE2, 0x34], .nopImm 0xE2 0x34), ([0xE3, 0x34], .iscIzx 0x34),
    ([0xE4, 0x34], .cpxZp 0x34), ([0xE5, 0x34], .sbcZp 0x34), ([0xE6, 0x34], .incZp 0x34), ([0xE7, 0x34], .iscZp 0x34),
    ([0xE8], .inx), ([0xE9, 0x34], .sbcImm 0x34), ([0xEA], .nop), ([0xEB, 0x34], .usbcImm 0x34),
    ([0xEC, 0x34, 0x12], .cpxAbs 0x1234), ([0xED, 0x34, 0x12], .sbcAbs 0x1234), ([0xEE, 0x34, 0x12], .incAbs 0x1234), ([0xEF, 0x34, 0x12], .iscAbs 0x1234)] = true := by decide
theorem test_decode_rowF :
    decodesTo [
    ([0xF0, 0xFE], .beq (-2)), ([0xF1, 0x34], .sbcIzy 0x34), ([0xF2], .jam 0xF2), ([0xF3, 0x34], .iscIzy 0x34),
    ([0xF4, 0x34], .nopZpx 0xF4 0x34), ([0xF5, 0x34], .sbcZpx 0x34), ([0xF6, 0x34], .incZpx 0x34), ([0xF7, 0x34], .iscZpx 0x34),
    ([0xF8], .sed), ([0xF9, 0x34, 0x12], .sbcAbsy 0x1234), ([0xFA], .nopImp 0xFA), ([0xFB, 0x34, 0x12], .iscAbsy 0x1234),
    ([0xFC, 0x34, 0x12], .nopAbsx 0xFC 0x1234), ([0xFD, 0x34, 0x12], .sbcAbsx 0x1234), ([0xFE, 0x34, 0x12], .incAbsx 0x1234), ([0xFF, 0x34, 0x12], .iscAbsx 0x1234)] = true := by decide
theorem test_missing_operand :
    decode [] = .error .noOpcode ∧ decode [0x20, 0x34] = .error (.missingOperand 0x20) ∧
      decode [0xA9] = .error (.missingOperand 0xA9) := by decide

theorem test_table_word :
    decodeTableWord 24 0x12FF9D = some (.staAbsx 0x12FF) ∧ decodeTableWord 16 0x80F0 = some (.beq (-128)) ∧
      decodeTableWord 8 0x60 = some .rts := by decide

/-! ## One step: the vectors of 95_test_vectors.md -/

/-- The state S0 of 95_test_vectors.md, with RAM all 0. -/
def s0 : State :=
  { State.reset with pc := 0x0200, cycles := 0, events := [], flags := ⟨false, false, true, false, false, false⟩ }

/-- S0 with the bytes at 0x0200 onward and further cells of RAM. -/
def placed (bytes : List Byte) (cells : List (Nat × Byte)) : State :=
  { s0 with ram := Memory.writeAll (loadBytes [] 0x0200 bytes) cells }

/-- The step goes on, to a state the test accepts. -/
def gives (r : Result) (p : State → Bool) : Bool :=
  match r with
  | .next t => p t
  | _ => false

-- V-LS1
theorem test_ldaimm_ls1 :
    gives (step { placed [0xA9, 0x00] [] with a := 0x05 })
      (fun t => t.a == 0x00 && getP t.flags == 0x36 && t.cycles == 2 && t.pc == 0x0202) = true := by decide
-- V-LS2
theorem test_ldaimm_ls2 :
    gives (step (placed [0xA9, 0x80] []))
      (fun t => t.a == 0x80 && getP t.flags == 0xB4 && t.cycles == 2) = true := by decide
-- V-LS3
theorem test_ldazpx_ls3 :
    gives (step { placed [0xB5, 0xF0] [(0x10, 0x33), (0x110, 0x44)] with x := 0x20 })
      (fun t => t.a == 0x33 && t.cycles == 4) = true := by decide
-- V-LS4
theorem test_ldaizx_ls4 :
    gives (step { placed [0xA1, 0xFE] [(0xFF, 0x34), (0x0, 0x12), (0x1234, 0x77)] with x := 0x01 })
      (fun t => t.a == 0x77 && t.cycles == 6) = true := by decide
-- V-LS7
theorem test_ldxzpy_ls7 :
    gives (step { placed [0xB6, 0x10] [] with y := 0x05 })
      (fun t => t.x == 0x00 && getP t.flags == 0x36 && t.cycles == 4) = true := by decide
-- V-LS8
theorem test_ldyabs_ls8 :
    gives (step (placed [0xAC, 0x00, 0x30] [(0x3000, 0xFE)]))
      (fun t => t.y == 0xFE && getP t.flags == 0xB4 && t.cycles == 4) = true := by decide
-- V-LS9
theorem test_staabs_ls9 :
    gives (step { placed [0x8D, 0x00, 0x30] [] with a := 0x5A })
      (fun t => t.ram.read 0x3000 == 0x5A && t.cycles == 4 && getP t.flags == 0x34) = true := by decide
-- V-LS10
theorem test_staizy_ls10 :
    gives (step { placed [0x91, 0x40] [(0x40, 0xFF), (0x41, 0x30)] with a := 0x5A, y := 0x01 })
      (fun t => t.ram.read 0x3100 == 0x5A && t.cycles == 6) = true := by decide
-- V-LS11
theorem test_stxzpy_ls11 :
    gives (step { placed [0x96, 0xFF] [] with x := 0x11, y := 0x01 })
      (fun t => t.ram.read 0x0000 == 0x11 && t.cycles == 4) = true := by decide
-- V-LS12
theorem test_styzpx_ls12 :
    gives (step { placed [0x94, 0x10] [] with y := 0x22, x := 0x01 })
      (fun t => t.ram.read 0x0011 == 0x22 && t.cycles == 4) = true := by decide
-- V-LS13
theorem test_tax_ls13 :
    gives (step { placed [0xAA] [] with a := 0x80 })
      (fun t => t.x == 0x80 && getP t.flags == 0xB4 && t.cycles == 2) = true := by decide
-- V-LS14
theorem test_txs_ls14 :
    gives (step { placed [0x9A] [] with x := 0x00 })
      (fun t => t.sp == 0x00 && getP t.flags == 0x34 && t.cycles == 2) = true := by decide
-- V-LS15
theorem test_tsx_ls15 :
    gives (step { placed [0xBA] [] with sp := 0x00 })
      (fun t => t.x == 0x00 && getP t.flags == 0x36 && t.cycles == 2) = true := by decide
-- V-LS16
theorem test_pha_ls16 :
    gives (step { placed [0x48] [] with a := 0x66, sp := 0x00 })
      (fun t => t.ram.read 0x0100 == 0x66 && t.sp == 0xFF && t.cycles == 3) = true := by decide
-- V-LS17
theorem test_pla_ls17 :
    gives (step { placed [0x68] [] with sp := 0xFF })
      (fun t => t.sp == 0x00 && t.a == 0x00 && getP t.flags == 0x36 && t.cycles == 4) = true := by decide
-- V-LS18
theorem test_php_ls18 :
    gives (step { placed [0x08] [] with flags := { s0.flags with i := false, c := true, n := true } })
      (fun t => t.ram.read 0x01FF == 0xB1 && t.sp == 0xFE && t.cycles == 3) = true := by decide
-- V-LS19
theorem test_plp_ls19 :
    gives (step { placed [0x28] [(0x1FF, 0xFF)] with sp := 0xFE })
      (fun t => getP t.flags == 0xFF && t.sp == 0xFF && t.cycles == 4) = true := by decide
-- V-AL1
theorem test_adcimm_al1 :
    gives (step { placed [0x69, 0x50] [] with a := 0x50 })
      (fun t => t.a == 0xA0 && t.flags.n && t.flags.v && !t.flags.z && !t.flags.c && getP t.flags == 0xF4 && t.cycles == 2) = true := by decide
-- V-AL5
theorem test_adcimm_al5 :
    gives (step { placed [0x69, 0x01] [] with a := 0x99, flags := { s0.flags with i := true, d := true } })
      (fun t => t.a == 0x00 && t.flags.c && !t.flags.z && t.flags.n && !t.flags.v && getP t.flags == 0xBD) = true := by decide
-- V-AL12
theorem test_sbcimm_al12 :
    gives (step { placed [0xE9, 0x01] [] with a := 0x00, flags := { s0.flags with i := true, c := true } })
      (fun t => t.a == 0xFF && t.flags.n && !t.flags.c && getP t.flags == 0xB4) = true := by decide
-- V-AL15
theorem test_sbcimm_al15 :
    gives (step { placed [0xE9, 0x01] [] with a := 0x00, flags := { s0.flags with i := true, c := true, d := true } })
      (fun t => t.a == 0x99 && !t.flags.c && t.flags.n && getP t.flags == 0xBC) = true := by decide
-- V-AL21
theorem test_andimm_al21 :
    gives (step { placed [0x29, 0x0F] [] with a := 0xF0 })
      (fun t => t.a == 0x00 && t.flags.z && getP t.flags == 0x36) = true := by decide
-- V-AL22
theorem test_oraimm_al22 :
    gives (step { placed [0x09, 0x01] [] with a := 0x80 })
      (fun t => t.a == 0x81 && t.flags.n) = true := by decide
-- V-AL23
theorem test_eorimm_al23 :
    gives (step { placed [0x49, 0xFF] [] with a := 0xFF })
      (fun t => t.a == 0x00 && t.flags.z) = true := by decide
-- V-AL24
theorem test_bitzp_al24 :
    gives (step { placed [0x24, 0x10] [(0x10, 0xC0)] with a := 0x01 })
      (fun t => t.flags.z && t.flags.n && t.flags.v && getP t.flags == 0xF6 && t.cycles == 3) = true := by decide
-- V-AL26
theorem test_cmpimm_al26 :
    gives (step { placed [0xC9, 0x20] [] with a := 0x10 })
      (fun t => !t.flags.c && t.flags.n && getP t.flags == 0xB4) = true := by decide
-- V-AL27
theorem test_cmpimm_al27 :
    gives (step { placed [0xC9, 0x01] [] with a := 0x80 })
      (fun t => t.flags.c && !t.flags.n && getP t.flags == 0x35) = true := by decide
-- V-AL28
theorem test_cpximm_al28 :
    gives (step { placed [0xE0, 0x00] [] with x := 0x00 })
      (fun t => t.flags.z && t.flags.c) = true := by decide
-- V-AL29
theorem test_cpyimm_al29 :
    gives (step { placed [0xC0, 0xFF] [] with y := 0x01 })
      (fun t => !t.flags.c && !t.flags.z && !t.flags.n && getP t.flags == 0x34) = true := by decide
-- V-AL30
theorem test_inczp_al30 :
    gives (step (placed [0xE6, 0x10] [(0x10, 0xFF)]))
      (fun t => t.ram.read 0x10 == 0x00 && t.flags.z && t.cycles == 5) = true := by decide
-- V-AL31
theorem test_deczp_al31 :
    gives (step (placed [0xC6, 0x10] []))
      (fun t => t.ram.read 0x10 == 0xFF && t.flags.n && t.cycles == 5) = true := by decide
-- V-AL32
theorem test_incabsx_al32 :
    gives (step { placed [0xFE, 0xFF, 0x12] [(0x1300, 0x7F)] with x := 0x01 })
      (fun t => t.ram.read 0x1300 == 0x80 && t.flags.n && t.cycles == 7) = true := by decide
-- V-AL33
theorem test_inx_al33 :
    gives (step { placed [0xE8] [] with x := 0xFF })
      (fun t => t.x == 0x00 && t.flags.z) = true := by decide
-- V-AL34
theorem test_iny_al34 :
    gives (step { placed [0xC8] [] with y := 0x7F })
      (fun t => t.y == 0x80 && t.flags.n) = true := by decide
-- V-AL35
theorem test_dex_al35 :
    gives (step { placed [0xCA] [] with x := 0x00 })
      (fun t => t.x == 0xFF && t.flags.n) = true := by decide
-- V-AL36
theorem test_dey_al36 :
    gives (step { placed [0x88] [] with y := 0x01 })
      (fun t => t.y == 0x00 && t.flags.z) = true := by decide
-- V-AL37
theorem test_aslacc_al37 :
    gives (step { placed [0x0A] [] with a := 0x81 })
      (fun t => t.a == 0x02 && t.flags.c && getP t.flags == 0x35) = true := by decide
-- V-AL38
theorem test_lsracc_al38 :
    gives (step { placed [0x4A] [] with a := 0x01 })
      (fun t => t.a == 0x00 && t.flags.z && t.flags.c && getP t.flags == 0x37) = true := by decide
-- V-AL39
theorem test_rolacc_al39 :
    gives (step { placed [0x2A] [] with a := 0x80, flags := { s0.flags with i := true, c := false } })
      (fun t => t.a == 0x00 && t.flags.z && t.flags.c) = true := by decide
-- V-AL41
theorem test_roracc_al41 :
    gives (step { placed [0x6A] [] with a := 0x01, flags := { s0.flags with i := true, c := true } })
      (fun t => t.a == 0x80 && t.flags.n && t.flags.c && getP t.flags == 0xB5) = true := by decide
-- V-AL42
theorem test_rorzp_al42 :
    gives (step (placed [0x66, 0x10] [(0x10, 0x02)]))
      (fun t => t.ram.read 0x10 == 0x01 && !t.flags.c && t.cycles == 5) = true := by decide
-- V-CF1
theorem test_bne_cf1 :
    gives (step { placed [0xD0, 0x05] [] with flags := { s0.flags with i := true, z := false } })
      (fun t => t.pc == 0x0207 && t.cycles == 3) = true := by decide
-- V-CF3
theorem test_beq_cf3 :
    gives (step { placed [0xF0, 0x80] [] with flags := { s0.flags with i := true, z := true } })
      (fun t => t.pc == 0x0182 && t.cycles == 4) = true := by decide
-- V-CF4
theorem test_bpl_cf4 :
    gives (step { placed [0x10, 0xFE] [] with flags := { s0.flags with i := true, n := false } })
      (fun t => t.pc == 0x0200 && t.cycles == 3) = true := by decide
-- V-CF5
theorem test_jmpabs_cf5 :
    gives (step (placed [0x4C, 0x34, 0x12] []))
      (fun t => t.pc == 0x1234 && t.cycles == 3) = true := by decide
-- V-CF6
theorem test_jmpind_cf6 :
    gives (step (placed [0x6C, 0xFF, 0x30] [(0x30FF, 0x80), (0x3000, 0x50), (0x3100, 0x40)]))
      (fun t => t.pc == 0x5080 && t.cycles == 5) = true := by decide
-- V-CF7
theorem test_jsrabs_cf7 :
    gives (step (placed [0x20, 0x00, 0x30] []))
      (fun t => t.ram.read 0x01FF == 0x02 && t.ram.read 0x01FE == 0x02 && t.sp == 0xFD && t.pc == 0x3000 && t.cycles == 6) = true := by decide
-- V-CF8
theorem test_rts_cf8 :
    gives (step { placed [0x60] [(0x1FE, 0xFF), (0x1FF, 0x12)] with sp := 0xFD })
      (fun t => t.pc == 0x1300 && t.sp == 0xFF && t.cycles == 6) = true := by decide
-- V-CF9
theorem test_rti_cf9 :
    gives (step { placed [0x40] [(0x1FD, 0xC3), (0x1FE, 0x34), (0x1FF, 0x12)] with sp := 0xFC })
      (fun t => t.flags.n && t.flags.v && t.flags.z && t.flags.c && !t.flags.i && !t.flags.d && getP t.flags == 0xF3 && t.pc == 0x1234 && t.sp == 0xFF && t.cycles == 6) = true := by decide
-- V-CF10
theorem test_brk_cf10 :
    gives (step { placed [0x00, 0xEA] [(0xFFFF, 0x40)] with flags := { s0.flags with i := false, c := true } })
      (fun t => t.ram.read 0x01FF == 0x02 && t.ram.read 0x01FE == 0x02 && t.ram.read 0x01FD == 0x31 && t.pc == 0x4000 && t.sp == 0xFC && t.cycles == 7 && t.flags.i) = true := by decide
-- V-CF11
theorem test_clc_cf11 :
    gives (step { placed [0x18] [] with flags := { s0.flags with i := true, c := true } })
      (fun t => !t.flags.c) = true := by decide
-- V-CF12
theorem test_sec_cf12 : gives (step (placed [0x38] [])) (fun t => t.flags.c) = true := by decide
-- V-CF13
theorem test_cli_cf13 : gives (step (placed [0x58] [])) (fun t => !t.flags.i && getP t.flags == 0x30) = true := by decide
-- V-CF14
theorem test_sei_cf14 :
    gives (step { placed [0x78] [] with flags := { s0.flags with i := false } })
      (fun t => t.flags.i) = true := by decide
-- V-CF15
theorem test_cld_cf15 :
    gives (step { placed [0xD8] [] with flags := { s0.flags with i := true, d := true } })
      (fun t => !t.flags.d) = true := by decide
-- V-CF16
theorem test_sed_cf16 : gives (step (placed [0xF8] [])) (fun t => t.flags.d && getP t.flags == 0x3C) = true := by decide
-- V-CF17
theorem test_clv_cf17 :
    gives (step { placed [0xB8] [] with flags := { s0.flags with i := true, v := true } })
      (fun t => !t.flags.v) = true := by decide
-- V-CF18
theorem test_nop_cf18 : gives (step (placed [0xEA] [])) (fun t => t.pc == 0x0201 && t.cycles == 2) = true := by decide
-- V-IL1
theorem test_slozp_il1 :
    gives (step { placed [0x07, 0x10] [(0x10, 0x81)] with a := 0x01 })
      (fun t => t.ram.read 0x10 == 0x02 && t.a == 0x03 && t.flags.c && t.cycles == 5) = true := by decide
-- V-IL2
theorem test_rlazp_il2 :
    gives (step { placed [0x27, 0x10] [(0x10, 0x80)] with a := 0xFF, flags := { s0.flags with i := true, c := true } })
      (fun t => t.ram.read 0x10 == 0x01 && t.a == 0x01 && t.flags.c) = true := by decide
-- V-IL3
theorem test_srezp_il3 :
    gives (step { placed [0x47, 0x10] [(0x10, 0x03)] with a := 0x01 })
      (fun t => t.ram.read 0x10 == 0x01 && t.a == 0x00 && t.flags.z && t.flags.c) = true := by decide
-- V-IL4
theorem test_rrazp_il4 :
    gives (step { placed [0x67, 0x10] [(0x10, 0x02)] with a := 0x10, flags := { s0.flags with i := true, c := true } })
      (fun t => t.ram.read 0x10 == 0x81 && t.a == 0x91 && t.flags.n && !t.flags.c) = true := by decide
-- V-IL5
theorem test_saxzp_il5 :
    gives (step { placed [0x87, 0x10] [] with a := 0xF0, x := 0x3C })
      (fun t => t.ram.read 0x10 == 0x30 && t.cycles == 3 && getP t.flags == 0x34) = true := by decide
-- V-IL6
theorem test_laxzp_il6 :
    gives (step (placed [0xA7, 0x10] [(0x10, 0x80)]))
      (fun t => t.a == 0x80 && t.x == 0x80 && t.flags.n && t.cycles == 3) = true := by decide
-- V-IL7
theorem test_laxizy_il7 :
    gives (step { placed [0xB3, 0x10] [(0x10, 0xFF), (0x11, 0x12)] with y := 0x01 })
      (fun t => t.a == 0x00 && t.x == 0x00 && t.flags.z && t.cycles == 6) = true := by decide
-- V-IL8
theorem test_dcpzp_il8 :
    gives (step { placed [0xC7, 0x10] [(0x10, 0x41)] with a := 0x40 })
      (fun t => t.ram.read 0x10 == 0x40 && t.flags.z && t.flags.c) = true := by decide
-- V-IL9
theorem test_isczp_il9 :
    gives (step { placed [0xE7, 0x10] [(0x10, 0x0F)] with a := 0x10, flags := { s0.flags with i := true, c := true } })
      (fun t => t.ram.read 0x10 == 0x10 && t.a == 0x00 && t.flags.z && t.flags.c) = true := by decide
-- V-IL10
theorem test_ancimm_il10 :
    gives (step { placed [0x0B, 0x80] [] with a := 0xFF })
      (fun t => t.a == 0x80 && t.flags.n && t.flags.c) = true := by decide
-- V-IL11
theorem test_alrimm_il11 :
    gives (step { placed [0x4B, 0x03] [] with a := 0xFF })
      (fun t => t.a == 0x01 && t.flags.c) = true := by decide
-- V-IL13
theorem test_arrimm_il13 :
    gives (step { placed [0x6B, 0x40] [] with a := 0xFF, flags := { s0.flags with i := true, c := false } })
      (fun t => t.a == 0x20 && !t.flags.c && t.flags.v) = true := by decide
-- V-IL14
theorem test_arrimm_il14 :
    gives (step { placed [0x6B, 0xFF] [] with a := 0xFF, flags := { s0.flags with i := true, c := false, d := true } })
      (fun t => t.a == 0xD5 && t.flags.c && !t.flags.n && !t.flags.z && !t.flags.v) = true := by decide
-- V-IL15
theorem test_sbximm_il15 :
    gives (step { placed [0xCB, 0x10] [] with a := 0xF0, x := 0x3F })
      (fun t => t.x == 0x20 && t.flags.c) = true := by decide
-- V-IL16
theorem test_sbximm_il16 :
    gives (step { placed [0xCB, 0x20] [] with a := 0x0F, x := 0xFF })
      (fun t => t.x == 0xEF && !t.flags.c && t.flags.n) = true := by decide
-- V-IL17
theorem test_usbcimm_il17 :
    gives (step { placed [0xEB, 0xB0] [] with a := 0x50, flags := { s0.flags with i := true, c := true } })
      (fun t => t.a == 0xA0 && t.flags.n && t.flags.v && !t.flags.c) = true := by decide
-- V-IL18
theorem test_nopimp_il18 : gives (step (placed [0x1A] [])) (fun t => t.pc == 0x0201 && t.cycles == 2) = true := by decide
-- V-IL19
theorem test_nopimm_il19 :
    gives (step (placed [0x80, 0x55] []))
      (fun t => t.pc == 0x0202 && t.cycles == 2) = true := by decide
-- V-IL20
theorem test_nopzp_il20 :
    gives (step (placed [0x04, 0x10] []))
      (fun t => t.pc == 0x0202 && t.cycles == 3) = true := by decide
-- V-IL21
theorem test_nopabsx_il21 :
    gives (step { placed [0x1C, 0xFF, 0x12] [] with x := 0x01 })
      (fun t => t.pc == 0x0203 && t.cycles == 5) = true := by decide
-- V-IL22
theorem test_sloizx_il22 :
    gives (step { placed [0x03, 0x0C] [(0x11, 0x13), (0x1300, 0x40)] with a := 0x00, x := 0x04 })
      (fun t => t.ram.read 0x1300 == 0x80 && t.a == 0x80 && t.flags.n && t.cycles == 8) = true := by decide
-- V-IL24
theorem test_isczp_il24 :
    gives (step { placed [0xE7, 0x10] [(0x10, 0x09)] with a := 0x50, flags := { s0.flags with i := true, c := true, d := true } })
      (fun t => t.ram.read 0x10 == 0x0A && t.a == 0x40 && t.flags.c) = true := by decide
-- V-IL26
theorem test_aneimm_il26 :
    gives (step (placed [0x8B, 0x00] []))
      (fun t => t.pc == 0x0201 && t.cycles == 2) = true := by decide

-- R207 to R212, R269, for the transfers no vector covers: the value moves, N and Z follow it.
theorem test_tay : gives (step { placed [0xA8] [] with a := 0x80 }) (fun t => t.y == 0x80 && t.flags.n) = true := by decide
theorem test_txa : gives (step { placed [0x8A] [] with x := 0x80 }) (fun t => t.a == 0x80 && t.flags.n) = true := by decide
theorem test_tya :
    gives (step { placed [0x98] [] with a := 0x01 }) (fun t => t.a == 0x00 && t.flags.z) = true := by decide

-- R303 to R308, with the costs of R300: taken within the page, not taken.
theorem test_bcc :
    gives (step (placed [0x90, 0x05] [])) (fun t => t.pc == 0x0207 && t.cycles == 3) = true := by decide
theorem test_bcs :
    gives (step (placed [0xB0, 0x05] [])) (fun t => t.pc == 0x0202 && t.cycles == 2) = true := by decide
theorem test_bmi :
    gives (step (placed [0x30, 0x05] [])) (fun t => t.pc == 0x0202 && t.cycles == 2) = true := by decide
theorem test_bvc :
    gives (step (placed [0x50, 0x80] [])) (fun t => t.pc == 0x0182 && t.cycles == 4) = true := by decide
theorem test_bvs :
    gives (step (placed [0x70, 0x05] [])) (fun t => t.pc == 0x0202 && t.cycles == 2) = true := by decide

-- V-IL27, first step and a further one.
theorem test_jam :
    gives (step (placed [0x02] [])) (fun t => t.mode == .jammed && t.pc == 0x0201 && t.cycles == 2) = true := by decide
theorem test_jammed :
    gives (step { placed [0x02] [] with mode := .jammed, pc := 0x0201, cycles := 2 })
      (fun t => t.mode == .jammed && t.pc == 0x0201 && t.cycles == 3) = true := by decide

-- R367: in ILLEGAL_SET, an unstable opcode is refused.
theorem test_unstable_refused :
    exec (.shxAbsy 0x1234) { s0 with params := { s0.params with illegalSet := [0x9E] } } =
      .refused (.unstableIllegal 0x9E) := rfl

/-! ## Interrupts, reset, trap (V-EX) -/

-- V-EX1
theorem test_irq_entry :
    gives (step { placed [] [(0x4000, 0x40), (0xFFFF, 0x40)] with
        pc := 0x0203, irqPending := true, flags := ⟨true, false, false, true, false, true⟩ })
      (fun t => t.ram.read 0x01FF == 0x02 && t.ram.read 0x01FE == 0x03 && t.ram.read 0x01FD == 0xA9 && t.flags.i &&
        t.flags.d && t.sp == 0xFC && t.pc == 0x4000 && t.cycles == 7 && !t.irqPending) = true := by decide
-- V-EX3
theorem test_irq_masked :
    gives (step { placed [] [(0x0203, 0xEA)] with pc := 0x0203, irqPending := true })
      (fun t => t.pc == 0x0204 && t.cycles == 2 && !t.irqPending) = true := by decide
-- V-EX4
theorem test_nmi_entry :
    gives (step { placed [] [(0xFFFB, 0x50)] with pc := 0x0203, irqPending := true, nmiPending := true })
      (fun t => t.ram.read 0x01FF == 0x02 && t.ram.read 0x01FE == 0x03 && t.ram.read 0x01FD == 0x24 && t.pc == 0x5000 &&
        t.cycles == 7 && !t.irqPending && !t.nmiPending) = true := by decide
-- V-EX5
theorem test_reset_from_jam :
    gives (step { placed [] [(0xFFFD, 0x80)] with mode := .jammed, resetPending := true, x := 0x12 })
      (fun t => t.mode == .running && t.pc == 0x8000 && t.flags.i && t.cycles == 7 && t.x == 0x12) = true := by decide
-- V-EX6, with no memory written: R403, R600.
theorem test_creation : step State.creation = .next State.reset := rfl
-- V-EX7, both steps, with no callback (R418).
theorem test_trap :
    gives (step { placed [0x20, 0xD2, 0xFF] [] with params := { defaultParams with trapCallback := false } })
      (fun t => t.sp == 0xFD && t.pc == 0xFFD2 && t.cycles == 6 &&
        gives (step t) (fun u => u.pc == 0x0203 && u.sp == 0xFF && u.cycles == 12)) = true := by decide

/-! ## The bus, the scheduler and the timer (E2, V-SC) -/

/-- S0 with the I/O shadow banked in (RAM[1] = 0x37) and the bytes at 0x0200. -/
def io (bytes : List Byte) : State := { s0 with ram := Memory.writeAll (loadBytes [] 0x0200 bytes) [(0x0001, 0x37)] }

/-- A block with the interceptions of a kind registered. -/
def withCallbacks (c : Interception) (s : State) : State :=
  { s with params := { s.params with readCallback := c, writeCallback := c } }

-- E2
theorem test_shadow_round_trip :
    let t := memWrite 0xD020 0x05 (io [])
    (memRead 0xD020 t).1 = 0x05 ∧ t.shadow.read 0x020 = 0x05 ∧ t.ram.read 0xD020 = 0x00 := by decide
theorem test_ram_under_io :
    let t := memWrite 0xD020 0x05 { io [] with ram := [(0x0001, 0x34)] }
    t.ram.read 0xD020 = 0x05 ∧ t.shadow.read 0x020 = 0x00 := by decide
theorem test_timer_registers :
    let t := memWrite 0xDC0D 0x81 (memWrite 0xDC0E 0x01 (memWrite 0xDC05 0x01 (memWrite 0xDC04 0x00 (io []))))
    t.timerCounter = 256 ∧ t.icrMask = 0x01 ∧ (timerLine t).timerCounter = 193 := by decide
-- V-SC1, the fifth line start
theorem test_timer_underflow :
    let t := timerLine { io [] with shadow := [(0xC0E, 0x01)], timerLatch := 0x0100, timerCounter := 4, icrMask := 0x01 }
    t.timerCounter = 198 ∧ t.timerLatched = true := by decide
-- V-SC2
theorem test_read_dc0d :
    gives (step { io [0xAD, 0x0D, 0xDC] with timerLatched := true })
      (fun t => t.a == 0x81 && t.flags.n && !t.timerLatched) = true := by decide
-- V-SC3
theorem test_write_d019 :
    gives (step { io [0x8D, 0x19, 0xD0] with rasterLatched := true }) (fun t => !t.rasterLatched) = true := by decide
-- V-SC4
theorem test_read_d019 :
    gives (step { io [0xAD, 0x19, 0xD0] with rasterLatched := true })
      (fun t => t.a == 0xF1 && t.rasterLatched) = true := by decide
-- V-SC5
theorem test_read_raster_line :
    let s := { io [] with line := 300, shadow := [(0x011, 0x1B)] }
    (memRead 0xD012 s).1 = 0x2C ∧ (memRead 0xD011 s).1 = 0x9B := by decide
-- V-SC6
theorem test_raster_check :
    let s := { io [] with shadow := [(0x012, 0x64), (0x01A, 0x01)] }
    (beginLine 100 s).rasterLatched = true ∧ (beginLine 99 s).rasterLatched = false ∧
      (beginLine 101 s).rasterLatched = false := by decide

/-! ## Video (R534, V-VID) -/

/-- The registers of R534. -/
def shadow534 : Memory :=
  [(0x011, 0x1B), (0x016, 0x08), (0x018, 0x18), (0x020, 0x0E), (0x021, 0x06), (0x800, 0x01), (0xD00, 0x03)]

/-- The memory of R534. -/
def ram534 : Memory := [(0x0400, 0x01), (0x2008, 0x80), (0x2009, 0x40)]

-- V-VID1
theorem test_badline :
    let v := badlineStep ram534 shadow534 51 Video.creation
    v.curRow = 0 ∧ v.screenRow.head? = some 1 ∧ v.colorRow.head? = some 1 ∧ v.rc = 0 ∧
      (badlineStep ram534 shadow534 52 v).rc = 1 ∧ (badlineStep ram534 shadow534 59 v).curRow = 1 := by decide
-- V-VID2
theorem test_pixels :
    let v := badlineStep ram534 shadow534 51 Video.creation
    let w := badlineStep ram534 shadow534 52 v
    graphicsPixel ram534 shadow534 v 0 = 1 ∧ graphicsPixel ram534 shadow534 v 1 = 6 ∧
      graphicsPixel ram534 shadow534 w 0 = 6 ∧ graphicsPixel ram534 shadow534 w 1 = 1 := by decide
-- V-VID3, V-VID4
theorem test_sprite_activation :
    activateSprite [(0x001, 100), (0x015, 0x01)] 101 0 ⟨false, 0⟩ = ⟨true, 0⟩ ∧
      activateSprite [(0x001, 100), (0x015, 0x01)] 100 0 ⟨false, 0⟩ = ⟨false, 0⟩ ∧
      activateSprite [(0x001, 20), (0x015, 0x01)] 277 0 ⟨false, 0⟩ = ⟨true, 0⟩ ∧
      advanceSprite ⟨true, 20⟩ = ⟨false, 0⟩ := by decide

/-- Two sprites at column 0 with one dot each, sprite 1 expanded, over an idle line (R526). -/
def spriteShadow : Memory :=
  [(0x000, 24), (0x002, 24), (0x011, 0x18), (0x015, 0x03), (0x016, 0x08), (0x018, 0x18), (0x01D, 0x02), (0x027, 0x01),
    (0x028, 0x02)] ++ [(0xD00, 0x03)]

/-- The pointers of the two sprites and their data. -/
def spriteRam : Memory := [(0x07F8, 0x80), (0x07F9, 0x80), (0x2000, 0x80)]

/-- Both sprites active on their first row. -/
def spriteVideo : Video := { Video.creation with sprites := List.replicate 2 ⟨true, 0⟩ ++ List.replicate 6 ⟨false, 0⟩ }

-- R526, worked out from its code
theorem test_sprite_pixels :
    let row := renderRow spriteRam spriteShadow 100 spriteVideo
    row[0]? = some 1 ∧ row[1]? = some 2 ∧ row[2]? = some 0 := by decide +kernel
-- R526, the pairs 00 01 10 11 of a multicolour row
theorem test_sprite_multicolour :
    let sh : Memory := [(0x01C, 0x01), (0x025, 0x0A), (0x026, 0x0B), (0x027, 0x0C)]
    spriteColour sh 0 0x1B0000 0 = none ∧ spriteColour sh 0 0x1B0000 3 = some 0x0A ∧
      spriteColour sh 0 0x1B0000 4 = some 0x0C ∧ spriteColour sh 0 0x1B0000 7 = some 0x0B := by decide

/-! ## Audio (V-AUD) -/

-- V-AUD2, V-AUD3, V-AUD4
theorem test_waveforms :
    sawWave 0x800000 = 0x800 ∧ triangleWave false 0x400000 = 0x800 ∧ triangleWave true 0xC00000 = 0x7FF ∧
      pulseWave 0x40 0x800 0x7FF000 = 0x000 ∧ pulseWave 0x40 0x800 0x800000 = 0xFFF ∧ noiseOut 0x7FFFF8 = 0xFE ∧
      noiseWave 0x7FFFF8 = 0xFE0 ∧ clockNoise 0x7FFFF8 = 0x7FFFF0 := by decide
-- V-AUD5, the first envelope step
theorem test_envelope_step :
    let ch := gateEdge 0x11 Channel.creation
    ((clockEnv [] 0)^[9] ch).env = 1 ∧ ((clockEnv [] 0)^[8] ch).env = 0 := by decide
-- V-AUD9
theorem test_full_scale_sample :
    normalise (.rat (((4095 - 2048) * 255 : Int) : Rat)) 15 = .rat (2047 / 6144) := by decide +kernel
-- V-AUD7, the three samples
theorem test_filter_steps :
    let step := filterStep (.rat 1) (.rat (1 / 10)) (.rat 1000)
    step (.rat 0) (.rat 0) = (.rat 1000, .rat 1000, .rat 1000) ∧
      step (.rat 1000) (.rat 1000) = (.rat 900, .rat 1900, .rat (-100)) ∧
      step (.rat 1900) (.rat 900) = (.rat (-90), .rat 1810, .rat (-990)) := by decide +kernel
-- V-AUD11
theorem test_underrun :
    (consumeSamples 2 Audio.creation).1 = [.rat 0, .rat 0] ∧ (consumeSamples 2 Audio.creation).2.underruns = 1 := by decide

-- V-AUD6: f is 1 where the cutoff is above a sixth of the sample rate, and an irrational number below it
theorem test_formula_f :
    formulaF 44100 2047 = .rat 1 ∧ formulaF 44100 1024 = .formulaF 44100 1024 ∧ formulaF 44100 0 = .formulaF 44100 0 := by
  decide +kernel
-- V-AUD7: q is the square root of 2, 0.713300 and 0.1
theorem test_formula_q : formulaQ 0 = .sqrtTwo ∧ formulaQ 15 = .rat (1 / 10) := by decide +kernel
theorem test_formula_q_between : |(formulaQ 8).toReal - 0.713300| < 1 / 10 ^ 6 := by
  have h1 : (1.414213 : ℝ) < Real.sqrt 2 := Real.lt_sqrt_of_sq_lt (by norm_num)
  have h2 : Real.sqrt 2 < (1.414214 : ℝ) := (Real.sqrt_lt' (by norm_num)).2 (by norm_num)
  simp only [formulaQ, RealTerm.toReal_add, RealTerm.toReal_scale, RealTerm.toReal_sqrtTwo, RealTerm.toReal_rat]
  push_cast
  rw [abs_lt]
  constructor <;> linarith
-- R568: at level 7 the divider is 16, so a release step takes 16 periods of 9 cycles; at the sustain level the level holds
theorem test_release_step :
    let ch := { Channel.creation with env := 0x07, adsr := .release }
    ((clockEnv [] 0)^[16 * 9] ch).env = 6 ∧ ((clockEnv [] 0)^[16 * 9 - 1] ch).env = 7 := by decide
theorem test_sustain_holds :
    let ch := { Channel.creation with env := 0xFF, adsr := .decaySustain }
    (clockEnv [(0x406, 0xF0)] 0)^[9] ch = ch ∧ ((clockEnv [(0x406, 0xE0)] 0)^[9] ch).env = 0xFE := by decide
-- R564: triangle and pulse selected together
theorem test_combined_wave :
    waveOf defaultParams 0x50 0x800 { Channel.creation with acc := 0x400000 } Channel.creation = 0x000 ∧
      waveOf defaultParams 0x50 0x400 { Channel.creation with acc := 0x400000 } Channel.creation = 0x800 := by decide

/-! ## The parameters of R8 away from their defaults, and the callbacks of R52 -/

-- R370
theorem test_undecoded_parameters :
    gives (step { placed [0x8B] [] with params := { defaultParams with undecodedLen := 2, undecodedCycles := 3 } })
      (fun t => t.pc == 0x0202 && t.cycles == 3) = true := by decide
-- R84, R86
theorem test_no_interception :
    let s := { withCallbacks .absent (io []) with timerLatched := true, rasterLatched := true, shadow := [(0xC0D, 0x12)] }
    (memRead 0xDC0D s).1 = 0x12 ∧ (memRead 0xDC0D s).2.timerLatched = true ∧
      (memWrite 0xD019 0x01 s).rasterLatched = true ∧ (memWrite 0xD019 0x01 s).shadow.read 0x019 = 0x01 := by decide
-- R580, 93_implementation_defined.md: two dequeues in one gap, the third after a pause
theorem test_two_dequeues :
    let s := { s0 with
      hostActions := [.consume 1, .consume 1, .pause, .consume 1]
      audio := { Audio.creation with queue := [.rat 1, .rat 0, .rat (-1)] } }
    (takeActions s).audio.queue = [.rat (-1)] ∧ (takeActions s).hostActions = [.consume 1] := ⟨rfl, rfl⟩
-- R51
theorem test_bank_control_address :
    let s := { s0 with params := { defaultParams with bankCtrlAddr := 0x40 }, ram := [(0x40, 0x01)] }
    isIO 0xD000 s = true ∧ isIO 0xD000 { s with ram := [(0x01, 0x01)] } = false := by decide

/-! ## Witnesses: concrete inputs that meet the hypotheses of each obligation, clause by clause -/

theorem memoryInv_s0 : MemoryInv s0 := by unfold MemoryInv; decide

theorem memoryInv_io (bytes : List Byte) (h : ((io bytes).ram).wf ramSize = true) : MemoryInv (io bytes) := ⟨h, rfl⟩

theorem witness_DecodeOfEncode :
    WellFormed (.bne (-128)) ∧ WellFormed (.bne 127) ∧ WellFormed (.jam 0xF2) ∧ WellFormed (.ldaAbsx 0xFFFF) := by
  decide

theorem witness_EncodeOfDecode : decode [0xD0, 0x80, 0xEA] = .ok (.bne (-128), [0xEA]) := rfl

theorem witness_LengthByOpcode :
    opcodeLength 0x20 ≤ ([0x34, 0x12] : List Byte).length + 1 ∧ ([0x34] : List Byte).length + 1 < opcodeLength 0x20 ∧
      opcodeLength 0xEA ≤ ([] : List Byte).length + 1 := by decide

theorem witness_RoutingToShadow :
    isIO 0xD000 (io []) = true ∧ isIO 0xDFFF (io []) = true ∧ isIO 0xCFFF (io []) = false ∧ isIO 0xE000 (io []) = false ∧
      isIO 0xD000 s0 = false := by decide

theorem witness_ReadAfterWrite :
    (MemoryInv s0 ∧ isIO 0xD011 s0 = false ∧ MemoryInv (io [])) ∧
      (isIO 0xD013 (io []) = true ∧ (io []).params.readCallback = .block ∧
        (0xD013 : Addr) ∉ [0xD011, 0xD012, 0xD019, 0xDC00, 0xDC01, 0xDC0D]) ∧
      (List.all [.absent, .host] fun c => isIO 0xDC0D (withCallbacks c (io [])) &&
        (withCallbacks c (io [])).params.readCallback == c) = true :=
  ⟨⟨memoryInv_s0, by decide, memoryInv_io [] (by decide)⟩, by decide, by decide⟩

theorem witness_WriteLeavesOtherCells :
    MemoryInv s0 ∧ isIO 0xD011 s0 = false ∧ (0 : Nat) ≠ (0xD011 : Addr).toNat ∧ MemoryInv (io []) ∧
      isIO 0xDFFF (io []) = true ∧ (0xFFE : Nat) ≠ (0xDFFF : Addr).toNat - 0xD000 :=
  ⟨memoryInv_s0, by decide, by decide, memoryInv_io [] (by decide), by decide, by decide⟩

theorem witness_ReadInterceptions :
    (List.all [0xD011, 0xD012, 0xD019, 0xDC00, 0xDC01, 0xDC0D] fun a => isIO a (io [])) = true ∧
      (List.all [0xD000, 0xDFFF] fun a =>
        isIO a (io []) && !List.contains [0xD011, 0xD012, 0xD019, 0xDC00, 0xDC01, 0xDC0D] a) = true ∧
      (List.all [.absent, .host] fun c => isIO 0xD000 (withCallbacks c (io []))) = true ∧
      isIO 0xCFFF (io []) = false ∧ isIO 0xE000 (io []) = false := by decide

theorem witness_WriteInterceptions :
    (List.all [0xD019, 0xDC04, 0xDC05, 0xDC0D, 0xDC0E, 0xD400, 0xD41F] fun a => isIO a (io [])) = true ∧
      (List.all [0xD000, 0xD3FF, 0xD420, 0xDFFF] fun a =>
        isIO a (io []) && !List.contains [0xD019, 0xDC04, 0xDC05, 0xDC0D, 0xDC0E] a &&
          (decide (a.toNat < 0xD400) || decide (0xD41F < a.toNat))) = true ∧
      (List.all [.absent, .host] fun c => isIO 0xDFFF (withCallbacks c (io []))) = true ∧
      isIO 0xD019 s0 = false := by decide

theorem witness_LatchesCleared :
    (isIO 0xD019 (io []) = true ∧ isIO 0xDC0D (io []) = true ∧ (io []).params.readCallback = .block ∧
      (io []).params.writeCallback = .block) ∧
      (MemoryInv (io []) ∧ InRam (io []).params.vecReset (io []) ∧ InRam (io []).params.vecIrq (io [])) ∧
      (∃ t, exec (.staAbs 0xD019) { io [] with rasterLatched := true } = .next t ∧ t.rasterLatched = false) ∧
      (∃ t, exec (.ldaAbs 0xDC0D) { io [] with timerLatched := true } = .next t ∧ t.timerLatched = false) :=
  ⟨by decide, ⟨memoryInv_io [] (by decide), by unfold InRam; decide⟩, ⟨_, rfl, by decide⟩, ⟨_, rfl, by decide⟩⟩

theorem witness_StepRunsInstruction_outside :
    ∀ s ∈ [placed [0xEA] [], placed [0xA9, 0x05] [], placed [0x4C, 0x00, 0x02] [], placed [0x8B] []],
      ReadyOutsideFrame s := by
  unfold ReadyOutsideFrame; decide

/-- Inside a line, one cycle before its target, with an interrupt asserted that I masks. -/
def inLine (bytes : List Byte) : State :=
  { placed bytes [] with phase := .cpuLoop, lineTarget := 63, cycles := 62, timerLatched := true }

theorem witness_StepRunsInstruction_line :
    ∀ s ∈ [inLine [0xEA], inLine [0xA9, 0x05], inLine [0x4C, 0x00, 0x02], inLine [0x8B]], ReadyInLine s := by
  unfold ReadyInLine; decide

theorem witness_StepRunsInstruction_bytes :
    (isUndecoded s0.params 0xEA = false ∧ decode [0xEA] = .ok (.nop, [])) ∧
      (isUndecoded s0.params 0xA9 = false ∧ decode [0xA9, 0x05] = .ok (.ldaImm 0x05, [])) ∧
      (isUndecoded s0.params 0x4C = false ∧ decode [0x4C, 0x00, 0x02] = .ok (.jmpAbs 0x0200, [])) ∧
      isUndecoded s0.params 0x8B = true :=
  ⟨⟨by decide, rfl⟩, ⟨by decide, rfl⟩, ⟨by decide, rfl⟩, by decide⟩

theorem witness_StepPriority :
    let idle : State := { s0 with mode := .jammed }
    let irq : State := { s0 with irqPending := true, flags := { s0.flags with i := false } }
    ({ s0 with resetPending := true }).resetPending = true ∧ (idle.resetPending = false ∧ idle.mode = .jammed) ∧
      (s0.resetPending = false ∧ s0.mode = .running ∧ ({ s0 with nmiPending := true }).nmiPending = true) ∧
      (irq.nmiPending = false ∧ irq.irqPending = true ∧ irq.flags.i = false) ∧
      (s0.nmiPending = false ∧ s0.irqPending = false ∧ s0.flags.i = true) ∧
      (List.all [0xFF81, 0xFFF5] fun pc => inTrapWindow s0.params pc) = true ∧
      (List.all [0xFF80, 0xFFF6] fun pc => !inTrapWindow s0.params pc) = true := by decide

theorem witness_ResetStep :
    let s : State := { s0 with resetPending := true, mode := .jammed }
    s.resetPending = true ∧ InRam s.params.vecReset s := by
  unfold InRam; decide

theorem witness_InterruptEntry : MemoryInv s0 ∧ InRam s0.params.vecNmi s0 ∧ InRam s0.params.vecIrq s0 :=
  ⟨memoryInv_s0, by unfold InRam; decide⟩

theorem witness_KernalTrap :
    let s : State := { s0 with pc := 0xFF81, irqPending := true }
    (s.resetPending = false ∧ s.mode = .running ∧ s.nmiPending = false ∧ s.flags.i = true ∧
      s.params.trapReturnOpcode = 0x60 ∧ decode [0x60] = .ok (.rts, [])) ∧
      (∀ pc ∈ [0xFF81, 0xFFF5], ∃ w ∈ s.params.trapWindow, w.1 ≤ pc ∧ pc ≤ w.2) :=
  ⟨⟨rfl, rfl, rfl, rfl, rfl, rfl⟩, fun _ h => ⟨_, List.mem_singleton_self _, by
    rcases List.mem_pair.1 h with rfl | rfl <;> decide⟩⟩

/-- The hypotheses of TrapReturnsAfterCall, with no callback; with one they are the host's contract of R420. -/
theorem witness_TrapReturnsAfterCall :
    let s : State := { s0 with params := { defaultParams with trapCallback := false } }
    MemoryInv s ∧ ∃ t, exec (.jsrAbs 0xFF81) s = .next t ∧ t.params.trapCallback = false ∧ t.pc = 0xFF81 :=
  ⟨memoryInv_s0, _, rfl, by decide, by decide⟩

theorem witness_JammedStays :
    let s : State := { s0 with mode := .jammed, nmiPending := true }
    s.mode = .jammed ∧ (takeActions s).resetPending = false ∧ ∃ t, step s = .next t :=
  ⟨rfl, rfl, _, rfl⟩

theorem witness_CpuStepCosts :
    StepsCost s0.params ∧ ∃ t, cpuStep (placed [0x03, 0x10] []) = .next t ∧ t.cycles = 8 :=
  ⟨by unfold StepsCost; decide, _, rfl, by decide⟩

theorem witness_EveryInstructionCompletes :
    opcodeOf (.aneImm 1) ∈ unstableIllegal ∧ s0.params.illegalSet.contains (opcodeOf (.aneImm 1)) = false := by decide

theorem witness_OpcodesOutsideIllegalSet :
    (WellFormed (.sloZp 0x10) ∧ isUndecoded { s0.params with illegalSet := [] } (opcodeOf (.sloZp 0x10)) = true) ∧
      (WellFormed (.lasAbsy 0) ∧ isUndecoded s0.params (opcodeOf (.lasAbsy 0)) = true) ∧
      ([0x9E].contains (opcodeOf (.shxAbsy 0)) = true ∧ opcodeOf (.shxAbsy 0) ∈ unstableIllegal) := by decide

theorem witness_RegisterAndFlagWriters :
    WellFormed .nop ∧ (∃ t, exec .nop s0 = .next t) ∧
      ∀ rows ∈ [writesARows, writesXRows, writesYRows, writesSRows, writesCRows, writesIRows, writesDRows, writesVRows,
        writesNZRows], opcodeOf .nop ∉ rows :=
  ⟨by decide, ⟨_, rfl⟩, by decide⟩

theorem witness_MachineFrame :
    (NoHostCallback s0.params ∧ StepsCost s0.params ∧ s0.params.undecodedLen = 1) ∧
      WellFormed .nop ∧ (∃ t, exec .nop s0 = .next t) ∧ opcodeOf .nop ∉ jamOpcodes ∧ opcodeOf .nop ≠ 0x00 ∧
      isUndecoded s0.params (opcodeOf .nop) = false ∧ opcodeOf .nop ∉ controlRows :=
  ⟨by unfold NoHostCallback StepsCost; decide, by decide, ⟨_, rfl⟩, by decide⟩

theorem witness_NonStoringFrame :
    NoHostCallback (io []).params ∧ WellFormed (.ldaAbs 0xDC0C) ∧ (∃ t, exec (.ldaAbs 0xDC0C) (io []) = .next t) ∧
      readAddresses (.ldaAbs 0xDC0C) (io []) = [0xDC0C] ∧
      storeAddress (.ldaAbs 0xDC0C) (io []) = none ∧ opcodeOf (.ldaAbs 0xDC0C) ∉ pushRows :=
  ⟨by unfold NoHostCallback; decide, by decide, ⟨_, rfl⟩, by decide, by decide, by decide⟩

theorem witness_StoringFrame :
    MemoryInv (io []) ∧
      (∀ a ∈ [0xCFFF, 0xE000], (∃ t, exec (.staAbs a) (io []) = .next t) ∧
        storeAddress (.staAbs a) (io []) = some a ∧ isIO a (io []) = false) ∧
      (∀ a ∈ [0xD000, 0xD3FF, 0xD420, 0xDFFF], (∃ t, exec (.incAbs a) (io []) = .next t) ∧
        storeAddress (.incAbs a) (io []) = some a ∧ isIO a (io []) = true) :=
  ⟨memoryInv_io [] (by decide), fun _ _ => ⟨⟨_, rfl⟩, by simp_all [storeAddress, eaAbs]; rcases ‹_ ∨ _› with rfl | rfl <;> decide⟩,
    fun _ _ => ⟨⟨_, rfl⟩, by simp_all [storeAddress, eaAbs]; rcases ‹_ ∨ _› with rfl | rfl | rfl | rfl <;> decide⟩⟩

theorem witness_PushingFrame :
    InRam s0.params.vecIrq s0 ∧ MemoryInv s0 ∧ (∃ t, exec (.jsrAbs 0x3000) s0 = .next t) ∧ (∃ t, exec .pha s0 = .next t) ∧
      (∃ t, exec .php s0 = .next t) ∧ (∃ t, exec .brk s0 = .next t) ∧
      (∀ k ∈ [0x100, 0x1FC], k ≠ 256 + s0.sp.toNat ∧ k ≠ 256 + (s0.sp - 1).toNat ∧ k ≠ 256 + (s0.sp - 2).toNat) :=
  ⟨by unfold InRam; decide, memoryInv_s0, ⟨_, rfl⟩, ⟨_, rfl⟩, ⟨_, rfl⟩, ⟨_, rfl⟩, by decide⟩

theorem witness_Branches :
    let s : State := { s0 with flags := ⟨true, true, true, true, true, true⟩ }
    (s0.flags.c = false ∧ s0.flags.z = false ∧ s0.flags.n = false ∧ s0.flags.v = false) ∧
      (s.flags.c = true ∧ s.flags.z = true ∧ s.flags.n = true ∧ s.flags.v = true) := by decide

theorem witness_IllegalOpcodes :
    (stableIllegal.all fun op => s0.params.illegalSet.contains op) = true ∧ s0.flags.d = false ∧
      ({ s0 with flags := { s0.flags with d := true } }).flags.d = true := by decide

theorem witness_DecimalArithmeticOnDigits :
    (List.all [0x00, 0x09, 0x90, 0x99] fun (v : Byte) => decide (v.toNat % 16 ≤ 9 ∧ v.toNat / 16 ≤ 9)) = true := by decide

theorem witness_MemoryInvariant : MemoryInv (placed [0x8D, 0xFF, 0xFF] []) ∧ ∃ t, step (placed [0x8D, 0xFF, 0xFF] []) = .next t :=
  ⟨by unfold MemoryInv; decide, _, rfl⟩

theorem surfaceShape_blank : SurfaceShape blankSurface :=
  ⟨List.length_replicate, fun r h => by rw [List.eq_of_mem_replicate h, List.length_replicate]⟩

theorem videoInv_creation : VideoInv Video.creation :=
  ⟨by decide, by decide, by decide, List.length_replicate, List.length_replicate, List.length_replicate, by decide,
    surfaceShape_blank, surfaceShape_blank⟩

theorem audioInv_creation : AudioInv Audio.creation := by
  refine ⟨by unfold ChannelInv; decide, by unfold ChannelInv; decide, by unfold ChannelInv; decide, by simp [Audio.creation], ?_⟩
  norm_num [UnitSample, Audio.creation]

/-- The last line of a frame, about to begin, with a timer one line from its underflow. -/
def lastLine : State := { io [] with phase := .lineStart 311, line := 310, timerCounter := 62, shadow := [(0xC0E, 0x01)] }

theorem witness_UnitInvariants :
    SchedulerInv lastLine ∧ VideoInv lastLine.video ∧ AudioInv lastLine.audio ∧ ∃ t, step lastLine = .next t :=
  ⟨⟨by decide, by decide, by decide, fun n h => by cases h; decide⟩, videoInv_creation, audioInv_creation, _, rfl⟩

theorem runLine_past {n : Nat} {s : State} (h : s.lineTarget + s.params.cyclesPerLine ≤ s.cycles) :
    ∃ t, runLine n s = .next t ∧ t.lineTarget = s.lineTarget + s.params.cyclesPerLine ∧ t.cycles = s.cycles ∧
      t.params = s.params := by
  have hc : (beginLine n s).cycles = s.cycles ∧ (beginLine n s).params = s.params ∧
      (beginLine n s).lineTarget = s.lineTarget + s.params.cyclesPerLine := by
    simp only [beginLine, timerLine, rasterCheck]; split <;> split <;> exact ⟨rfl, rfl, rfl⟩
  obtain ⟨hc, hp, ht⟩ := hc
  have hz : (beginLine n s).lineTarget - (beginLine n s).cycles = 0 := by omega
  exact ⟨endLine (beginLine n s), by simp [runLine, hz, runCpu], ht, hc, hp⟩

theorem runLines_past (k : Nat) : ∀ {n : Nat} {s : State}, s.lineTarget + s.params.cyclesPerLine * k ≤ s.cycles →
    ∃ t, runLines k n s = .next t := by
  induction k with
  | zero => exact fun _ => ⟨_, rfl⟩
  | succ k ih =>
    intro n s h
    rw [Nat.mul_succ] at h
    obtain ⟨t, ht, hl, hc, hp⟩ := runLine_past (n := n) (s := s) (by omega)
    obtain ⟨u, hu⟩ := ih (n := n + 1) (s := t) (by rw [hp]; omega)
    exact ⟨u, by simp [runLines, ht, hu]⟩

/-- A frame in which the CPU is already past every target, so that the witness needs no long run. -/
theorem witness_FrameIsSteps :
    let s : State := { s0 with frameRequests := 1, cycles := 19656 }
    StepsCost s.params ∧ s.phase = .idle ∧ s.hostActions = [] ∧ s.frameRequests ≠ 0 ∧ ∃ t, runFrame s = .next t := by
  refine ⟨by unfold StepsCost; decide, rfl, rfl, by decide, ?_⟩
  obtain ⟨t, ht⟩ := runLines_past 312 (n := 0) (s := beginFrame { s0 with frameRequests := 1, cycles := 19656 }) (by decide)
  exact ⟨endFrame t, by simp only [runFrame]; rw [show s0.params.linesPerFrame = 312 from rfl, ht]⟩

theorem witness_UnitsDoNotFeedBack : ∃ t, step (placed [0x8D, 0xFF, 0xFF] []) = .next t := ⟨_, rfl⟩

theorem witness_RasterCompare :
    let sh : Memory := [(0x011, 0x80), (0x012, 0x38)]
    312 ≤ ((sh.read 0x012).toNat ||| (((sh.read 0x011).toNat &&& 0x80) <<< 1)) ∧ 311 < 312 := by decide

theorem witness_TimerCountdown :
    let stopped : State := { s0 with timerCounter := 0 }
    let running : State := { s0 with timerCounter := 62, timerLatch := 0, shadow := [(0xC0E, 0x01)] }
    (0 ≤ stopped.timerCounter ∧ (stopped.shadow.read 0xC0E).getLsbD 0 = false) ∧
      (0 ≤ running.timerCounter ∧ (running.shadow.read 0xC0E).getLsbD 0 = true) := by decide

theorem witness_LineBudget :
    let s : State := { s0 with mode := .jammed, cycles := 62 }
    StepsCost s.params ∧ (∃ t, runLine 0 s = .next t) ∧ s.cycles < s.lineTarget + 63 ∧
      (∃ t, runLine 0 { s with cycles := 63 } = .next t) ∧ ({ s with cycles := 63 }).lineTarget + 63 ≤ 63 :=
  ⟨by unfold StepsCost; decide, ⟨_, rfl⟩, by decide, ⟨_, rfl⟩, by decide⟩

theorem witness_BootImage :
    MemoryInv s0 ∧ (mkAddr 0xFF 0xFF).toNat ≤ 0xFFFF ∧ ¬ (mkAddr 0xFF 0xFF).toNat ≤ 256 ∧ (256 ≠ 0xFFFC ∧ 256 ≠ 0xFFFD) :=
  ⟨memoryInv_s0, by decide, by decide, by decide⟩

theorem witness_SpriteLines :
    Video.creation.sprites[0]? = some ⟨false, 0⟩ ∧ Video.creation.sprites[7]? = some ⟨false, 0⟩ := by decide

theorem witness_BadlineFetch :
    (isBadline shadow534 51 Video.creation = true ∧ isBadline [(0x011, 0x17)] 0xF7 { Video.creation with fetchedRows := 24 } = true) ∧
      (isBadline shadow534 52 Video.creation = false ∧ Video.creation.displayOn = false) ∧
      (isBadline shadow534 51 { Video.creation with fetchedRows := 25, displayOn := true } = false) := by decide

theorem witness_RenderPaths :
    (displayEnable [] = false) ∧
      (displayEnable shadow534 = true ∧ rows25 shadow534 = true ∧ (∀ n ∈ [51, 250], ¬ (n < 51 ∨ 250 < n))) ∧
      (rows25 [(0x011, 0x10)] = false ∧ ∀ n ∈ [55, 246], ¬ (n < 55 ∨ 246 < n)) ∧
      (columns40 [] = false ∧ columns40 shadow534 = true) ∧
      (∀ x ∈ [7, 310], ¬ (x ≤ 6 ∨ 311 ≤ x)) ∧
      (∀ i < 8, (Video.creation.sprites.getD i ⟨false, 0⟩).active = false) ∧
      (∀ i < 2, (spriteVideo.sprites.getD i ⟨false, 0⟩).active = true ∧ spriteEnabled spriteShadow i = true) ∧
      (spriteX spriteShadow 0 ≤ 0 + 24 ∧ spriteColour spriteShadow 0 (spriteData spriteRam spriteShadow 0 0) 0 = some 1 ∧
        spriteColour spriteShadow 0 (spriteData spriteRam spriteShadow 0 0) 1 = none ∧
        spriteColour spriteShadow 1 (spriteData spriteRam spriteShadow 1 0) (1 / 2) = some 2) ∧
      (illegalMode [(0x011, 0x60)] = true ∧ illegalMode [(0x011, 0x40), (0x016, 0x10)] = true ∧ illegalMode shadow534 = false) := by
  decide

theorem witness_GraphicsPixels :
    (0 < xScroll [(0x016, 0x01)]) ∧ (xScroll shadow534 ≤ 0 ∧ bitmapMode shadow534 = false ∧
        extendedColour shadow534 = false ∧ multicolour shadow534 = false) ∧
      (multicolour [(0x016, 0x10)] = true ∧ bitmapMode [(0x016, 0x10)] = false ∧ extendedColour [(0x016, 0x10)] = false) ∧
      (extendedColour [(0x011, 0x40)] = true ∧ bitmapMode [(0x011, 0x40)] = false) ∧
      (bitmapMode [(0x011, 0x20)] = true ∧ multicolour [(0x011, 0x20)] = false) ∧
      (bitmapMode [(0x011, 0x20), (0x016, 0x10)] = true ∧ multicolour [(0x011, 0x20), (0x016, 0x10)] = true) := by decide

theorem witness_SampleCadence :
    let p := { defaultParams with sampleRateHz := 985248 }
    p.sampleRateHz ≤ p.cpuClockHz ∧ ({ Audio.creation with sampleAcc := 985247 }).sampleAcc < p.cpuClockHz := by decide

theorem witness_FilterStability : 2047 ≤ 2047 ∧ 15 ≤ 15 := by decide

theorem witness_DefaultCoefficientsStable :
    defaultParams.filterPolicy = .formula ∧ 0 < defaultParams.sampleRateHz ∧ 2047 ≤ 2047 ∧ 15 ≤ 15 ∧
      ((defaultParams.sampleRateHz : ℝ) / 6 ≤ 30 * (400 : ℝ) ^ (((2047 : ℕ) : ℝ) / 2047)) :=
  ⟨rfl, by decide, by decide, by decide, by norm_num [defaultParams]⟩

theorem witness_OscillatorAndEnvelope :
    ((0x11 : Byte).getLsbD 3 = false ∧ (0x08 : Byte).getLsbD 3 = true) ∧
      ((List.all [(0x10, 1), (0x20, 2), (0x40, 4), (0x80, 8)] fun (c : Byte × Nat) => c.1.toNat / 16 == c.2) = true ∧
        (0x30 : Byte).toNat / 16 ∉ [0, 1, 2, 4, 8] ∧ defaultParams.combinedWave = .bitwiseAnd ∧
        ({ defaultParams with combinedWave := .host }).combinedWave = .host) ∧
      ((0x11 : Byte).getLsbD 0 = true ∧ Channel.creation.gatePrev = false) ∧
      (let ch := gateEdge 0x11 Channel.creation
       ch.adsr = .attack ∧ ch.env = 0 ∧ ch.rateCtr = 0 ∧ ch.expCtr = 0 ∧ (0x10 : Byte).getLsbD 0 = false ∧ ch.gatePrev = true) ∧
      (Channel.creation.adsr = .release ∧ ({ Channel.creation with adsr := .decaySustain }).adsr = .decaySustain) := by decide

theorem witness_FlushAndConsume :
    0 ≤ rateBandHigh ∧ Config.rateBandLow ≤ rateBandHigh ∧ Config.rateBandLow ≤ rateBandHigh + 1 ∧
      Audio.creation.queue.length ≤ 0 ∧ 0 < 1 :=
  ⟨Nat.zero_le _, Nat.le_add_right _ _, by unfold rateBandHigh; omega, by decide, by decide⟩

end Sys2Proof.Tests
end

section
/-!
PROOFS. The step as the instruction at the PC: which instruction the fetched bytes are, how many of them are fetched, and
that a step in which nothing comes before the instruction is its fetch and execution.
-/

namespace Sys2Proof.Machine

open Sys2Proof.Safety

/-! ## The bytes of an instruction (R130) -/

/-- A byte string that is one instruction has its opcode's length, and a byte it lacks is not looked at. -/
theorem decode_ok_nil {op : Byte} {rest : List Byte} {i : Instr} (h : decode (op :: rest) = .ok (i, [])) :
    opcodeLength op = rest.length + 1 ∧ decodeBytes op (rest.getD 0 0) (rest.getD 1 0) = i := by
  cases hs : shapeOf op with
  | implied j =>
    obtain ⟨rfl, rfl⟩ : j = i ∧ rest = [] := by simpa [decode, hs] using h
    exact ⟨congrArg Shape.length hs, congrArg (Shape.fill 0 0) hs⟩
  | byte f =>
    obtain _ | ⟨b, tail⟩ := rest
    · simp [decode, hs] at h
    obtain ⟨rfl, rfl⟩ : f b = i ∧ tail = [] := by simpa [decode, hs] using h
    exact ⟨congrArg Shape.length hs, congrArg (Shape.fill b 0) hs⟩
  | relative f =>
    obtain _ | ⟨b, tail⟩ := rest
    · simp [decode, hs] at h
    obtain ⟨rfl, rfl⟩ : f (offsetOfByte b) = i ∧ tail = [] := by simpa [decode, hs] using h
    exact ⟨congrArg Shape.length hs, congrArg (Shape.fill b 0) hs⟩
  | word f =>
    obtain _ | ⟨lo, _ | ⟨hi, tail⟩⟩ := rest
    · simp [decode, hs] at h
    · simp [decode, hs] at h
    obtain ⟨rfl, rfl⟩ : f (mkAddr lo hi) = i ∧ tail = [] := by simpa [decode, hs] using h
    exact ⟨congrArg Shape.length hs, congrArg (Shape.fill lo hi) hs⟩

/-! ## The fetch (R104, R370) -/

theorem fetchLength_decoded {p : Params} {op : Byte} (h : isUndecoded p op = false) :
    fetchLength p op = opcodeLength op := by
  simp [fetchLength, h]

theorem fetchLength_undecoded {p : Params} {op : Byte} (h : isUndecoded p op = true) : fetchLength p op = 1 := by
  simp [fetchLength, h]

/-- The fetch in the spec's words: the byte MemRead gives at the PC, and the PC one on, modulo 65536. -/
theorem fetch_eq_memRead (s : State) :
    fetch s = ((memRead s.pc s).1, { (memRead s.pc s).2 with pc := BitVec.ofNat 16 (s.pc.toNat + 1) }) := by
  simp [fetch, BitVec.ofNat_add]

theorem fetchExecute_of_length_one {s : State} (h : fetchLength s.params (fetch s).1 = 1) :
    fetchExecute s = exec (decodeBytes (fetch s).1 0 0) (fetch s).2 := by
  simp [fetchExecute, fetchInstr, fetchOperands, fetchIf, h]

theorem fetchExecute_of_length_two {s : State} (h : fetchLength s.params (fetch s).1 = 2) :
    let f1 := fetch (fetch s).2
    fetchExecute s = exec (decodeBytes (fetch s).1 f1.1 0) f1.2 := by
  simp [fetchExecute, fetchInstr, fetchOperands, fetchIf, h]

theorem fetchExecute_of_length_three {s : State} (h : fetchLength s.params (fetch s).1 = 3) :
    let f1 := fetch (fetch s).2
    let f2 := fetch f1.2
    fetchExecute s = exec (decodeBytes (fetch s).1 f1.1 f2.1) f2.2 := by
  simp [fetchExecute, fetchInstr, fetchOperands, fetchIf, h]

/-! ## The step (R400, R412, R456) -/

theorem takeActions_of_nil {s : State} (h : s.hostActions = []) : takeActions s = s := by
  rw [takeActions, h, takeListed, ← h]

theorem blockStep_idle {s : State} (hphase : s.phase = .idle) (hframes : s.frameRequests = 0) :
    blockStep s = cpuStep s := by
  simp [blockStep, hphase, hframes]

theorem blockStep_cpuLoop {s : State} (hphase : s.phase = .cpuLoop) (hcycles : s.cycles < s.lineTarget) :
    blockStep s = cpuStep (driveIrqLine s) := by
  simp [blockStep, hphase, hcycles]

theorem cpuStep_eq_fetchExecute {s : State} (hreset : s.resetPending = false) (hmode : s.mode = .running)
    (hnmi : s.nmiPending = false) (hirq : s.irqPending = false ∨ s.flags.i = true)
    (hwin : inTrapWindow s.params s.pc = false) : cpuStep s = fetchExecute { s with irqPending := false } := by
  have hirq' : (s.irqPending && !s.flags.i) = false := by rcases hirq with h | h <;> simp [h]
  simp [cpuStep, runningStep, trapOrExecute, hreset, hmode, hnmi, hirq', hwin]

/-- A step in which nothing comes before the instruction is its fetch and execution; the IRQ line it finds does not matter. -/
theorem step_eq_fetchExecute {s : State} (h : ReadyOutsideFrame s ∨ ReadyInLine s) :
    step s = fetchExecute { s with irqPending := false } := by
  rcases h with ⟨hacts, hphase, hframes, hreset, hmode, hnmi, hirq, hwin⟩ |
    ⟨hacts, hphase, hcycles, hreset, hmode, hnmi, hirq, hwin⟩
  · rw [step, takeActions_of_nil hacts, blockStep_idle hphase hframes]
    exact cpuStep_eq_fetchExecute hreset hmode hnmi hirq hwin
  · have hline : (driveIrqLine s).irqPending = false ∨ s.flags.i = true := by simpa [driveIrqLine] using hirq
    rw [step, takeActions_of_nil hacts, blockStep_cpuLoop hphase hcycles]
    exact cpuStep_eq_fetchExecute (s := driveIrqLine s) hreset hmode hnmi hline hwin

/-- Settles O14: the step is the fetch and execution, and the decoded instruction's length says how many bytes are fetched. -/
theorem stepRunsInstruction : Obligations.StepRunsInstruction := by
  refine ⟨fetch_eq_memRead, fun s hready => ?_⟩
  rw [step_eq_fetchExecute hready]
  refine ⟨fun hdec i => ⟨fun h => ?one, fun h => ?two, fun h => ?three⟩, fun hundec => ?undecoded⟩
  case one =>
    obtain ⟨hlen, rfl⟩ := decode_ok_nil h
    exact fetchExecute_of_length_one ((fetchLength_decoded hdec).trans hlen)
  case two =>
    obtain ⟨hlen, rfl⟩ := decode_ok_nil h
    exact fetchExecute_of_length_two ((fetchLength_decoded hdec).trans hlen)
  case three =>
    obtain ⟨hlen, rfl⟩ := decode_ok_nil h
    exact fetchExecute_of_length_three ((fetchLength_decoded hdec).trans hlen)
  case undecoded => exact fetchExecute_of_length_one (fetchLength_undecoded hundec)

end Sys2Proof.Machine
end

section
/-!
PROOFS. The decoder's instructions are well formed: every cell of the opcode map makes one, whatever its operand bytes.
-/

namespace Sys2Proof.Machine

/-- Whatever operand a cell of the opcode map is given, it makes a well-formed instruction; a branch, if the offset is in
range (R148). -/
def CellWellFormed : Shape → Prop
  | .implied i => WellFormed i
  | .byte f => ∀ b, WellFormed (f b)
  | .relative f => ∀ off, (f off).wf = offsetInRange off
  | .word f => ∀ a, WellFormed (f a)

/-- Every cell of the opcode map, one by one (R151). -/
theorem cellWellFormed_of_mem_opcodeMap : ∀ sh ∈ opcodeMap, CellWellFormed sh := by
  unfold opcodeMap mapRow0 mapRow1 mapRow2 mapRow3 mapRow4 mapRow5 mapRow6 mapRow7 mapRow8 mapRow9 mapRowA mapRowB
    mapRowC mapRowD mapRowE mapRowF
  simp only [List.forall_mem_append, List.forall_mem_cons, List.not_mem_nil, false_implies, implies_true, and_true,
    CellWellFormed]
  and_intros <;> intros <;> rfl

theorem length_opcodeMap : opcodeMap.length = 256 := by
  simp only [opcodeMap, List.length_append]
  rfl

theorem shapeOf_mem_opcodeMap (op : Byte) : shapeOf op ∈ opcodeMap := by
  have hlen : op.toNat < opcodeMap.length := length_opcodeMap ▸ op.isLt
  rw [shapeOf, List.getD_eq_getElem _ _ hlen]
  exact List.getElem_mem hlen

theorem offsetInRange_offsetOfByte (b : Byte) : offsetInRange (offsetOfByte b) = true := by
  have hlo : -128 ≤ b.toInt := BitVec.le_toInt b
  have hhi : b.toInt < 128 := BitVec.toInt_lt
  rw [offsetInRange, offsetOfByte, Bool.and_eq_true]
  exact ⟨decide_eq_true hlo, decide_eq_true (Int.le_of_lt_add_one hhi)⟩

theorem wellFormed_decodeBytes (op b1 b2 : Byte) : WellFormed (decodeBytes op b1 b2) := by
  have hcell := cellWellFormed_of_mem_opcodeMap _ (shapeOf_mem_opcodeMap op)
  unfold decodeBytes
  cases hsh : shapeOf op <;> rw [hsh] at hcell
  case implied i => exact hcell
  case byte f => exact hcell b1
  case relative f => exact (hcell _).trans (offsetInRange_offsetOfByte b1)
  case word f => exact hcell (mkAddr b1 b2)

end Sys2Proof.Machine
end

section
/-!
PROOFS. What an instruction is made of. An operation writes registers and flags that the tables of R41 and R45 list for its
row; an instruction is a run of such operations, reads, writes, jumps and records, and then its cost. Every frame of an
instruction follows from what one of these micro-steps can do.
-/

namespace Sys2Proof.Machine

open Sys2Proof.Safety

/-! ## What an operation writes (R41, R45) -/

/-- What R41 and R45 list the writers of: A, X, Y, S and the flags, N and Z together. -/
inductive Target where
  | a | x | y | sp | c | i | d | v | nz
deriving DecidableEq

/-- The rows that write a register or flag (R41, R45, R365). -/
def Target.rows : Target → List Byte
  | .a => writesARows
  | .x => writesXRows
  | .y => writesYRows
  | .sp => writesSRows
  | .c => writesCRows
  | .i => writesIRows
  | .d => writesDRows
  | .v => writesVRows
  | .nz => writesNZRows

/-- The register or flag is in `t` as it is in `s`. -/
def Target.Same (s t : State) : Target → Prop
  | .a => t.a = s.a
  | .x => t.x = s.x
  | .y => t.y = s.y
  | .sp => t.sp = s.sp
  | .c => t.flags.c = s.flags.c
  | .i => t.flags.i = s.flags.i
  | .d => t.flags.d = s.flags.d
  | .v => t.flags.v = s.flags.v
  | .nz => t.flags.n = s.flags.n ∧ t.flags.z = s.flags.z

/-- `t` is `s` but for the registers and flags in `w`. -/
def WritesOnly (w : List Target) (s t : State) : Prop :=
  t = { s with
    a := if .a ∈ w then t.a else s.a
    x := if .x ∈ w then t.x else s.x
    y := if .y ∈ w then t.y else s.y
    sp := if .sp ∈ w then t.sp else s.sp
    flags :=
      { c := if .c ∈ w then t.flags.c else s.flags.c
        z := if .nz ∈ w then t.flags.z else s.flags.z
        i := if .i ∈ w then t.flags.i else s.flags.i
        d := if .d ∈ w then t.flags.d else s.flags.d
        v := if .v ∈ w then t.flags.v else s.flags.v
        n := if .nz ∈ w then t.flags.n else s.flags.n } }

theorem WritesOnly.same {w : List Target} {s t : State} (h : WritesOnly w s t) {r : Target} (hr : r ∉ w) : r.Same s t := by
  rw [h]
  cases r <;> simp [Target.Same, hr]

/-- What does not look at registers or flags is as it was. -/
theorem WritesOnly.frame {w : List Target} {s t : State} {α : Type} (h : WritesOnly w s t) (f : State → α)
    (hf : ∀ a x y sp flags, f { s with a := a, x := x, y := y, sp := sp, flags := flags } = f s) : f t = f s :=
  (congrArg f h).trans (hf _ _ _ _ _)

theorem sp_writesOnly (v : Byte) (s : State) : WritesOnly [.sp] s { s with sp := v } := rfl

theorem setP_writesOnly (v : Byte) (s : State) : WritesOnly [.c, .i, .d, .v, .nz] s (setP v s) := rfl

theorem addWithCarry_writesOnly (m : Byte) (s : State) : WritesOnly [.a, .c, .v, .nz] s (addWithCarry m s) := by
  unfold addWithCarry
  split <;> rfl

theorem subtractWithBorrow_writesOnly (m : Byte) (s : State) :
    WritesOnly [.a, .c, .v, .nz] s (subtractWithBorrow m s) := by
  unfold subtractWithBorrow
  split <;> rfl

theorem andRotateRight_writesOnly (m : Byte) (s : State) : WritesOnly [.a, .c, .v, .nz] s (andRotateRight m s) := by
  unfold andRotateRight
  split <;> rfl

/-! ## The rows by what they write (R41, R45)

Each list of rows below is made of the blocks that the lists of R41 and R45 are made of, so that a row's place in them is found
by its block and not by its number. -/

/-- R41 and R45 list the row of `op` as a writer of all that is in `w`. -/
def Listed (w : List Target) (op : Byte) : Prop := ∀ r ∈ w, op ∈ r.rows

theorem listed_nil (op : Byte) : Listed [] op := by
  simp [Listed]

theorem listed_cons {r : Target} {w : List Target} {op : Byte} : Listed (r :: w) op ↔ op ∈ r.rows ∧ Listed w op := by
  simp [Listed]

theorem listed_single {r : Target} {op : Byte} (h : r.rows.contains op = true) : Listed [r] op := by
  simpa [listed_cons, listed_nil] using h

/-- The rows of LDA, TXA, TYA, AND, ORA, EOR. -/
def loadARows : List Byte :=
  [0xA1, 0xA5, 0xA9, 0xAD, 0xB1, 0xB5, 0xB9, 0xBD] ++ [0x8A] ++ [0x98] ++
  [0x21, 0x25, 0x29, 0x2D, 0x31, 0x35, 0x39, 0x3D] ++ [0x01, 0x05, 0x09, 0x0D, 0x11, 0x15, 0x19, 0x1D] ++
  [0x41, 0x45, 0x49, 0x4D, 0x51, 0x55, 0x59, 0x5D]

theorem listed_loadA {op : Byte} (h : loadARows.contains op = true) : Listed [.a, .nz] op := by
  simp only [List.contains_iff_mem, loadARows, List.mem_append, listed_cons, listed_nil, and_true,
    Target.rows] at h ⊢
  unfold writesARows writesNZRows
  rcases h with ((((h | h) | h) | h) | h) | h <;> simp only [List.mem_append, h, true_or, or_true, and_self]

/-- The rows of LDX, TAX, TSX, INX, DEX. -/
def loadXRows : List Byte := [0xA2, 0xA6, 0xAE, 0xB6, 0xBE] ++ [0xAA] ++ [0xBA] ++ [0xE8] ++ [0xCA]

theorem listed_loadX {op : Byte} (h : loadXRows.contains op = true) : Listed [.x, .nz] op := by
  simp only [List.contains_iff_mem, loadXRows, List.mem_append, listed_cons, listed_nil, and_true,
    Target.rows] at h ⊢
  unfold writesXRows writesNZRows
  rcases h with (((h | h) | h) | h) | h <;> simp only [List.mem_append, h, true_or, or_true, and_self]

/-- The rows of LDY, TAY, INY, DEY. -/
def loadYRows : List Byte := [0xA0, 0xA4, 0xAC, 0xB4, 0xBC] ++ [0xA8] ++ [0xC8] ++ [0x88]

theorem listed_loadY {op : Byte} (h : loadYRows.contains op = true) : Listed [.y, .nz] op := by
  simp only [List.contains_iff_mem, loadYRows, List.mem_append, listed_cons, listed_nil, and_true,
    Target.rows] at h ⊢
  unfold writesYRows writesNZRows
  rcases h with ((h | h) | h) | h <;> simp only [List.mem_append, h, true_or, or_true, and_self]

/-- The rows of LAX. -/
def loadAXRows : List Byte := [0xA3, 0xA7, 0xAF, 0xB3, 0xB7, 0xBF]

theorem listed_loadAX {op : Byte} (h : loadAXRows.contains op = true) : Listed [.a, .x, .nz] op := by
  simp only [List.contains_iff_mem, loadAXRows, listed_cons, listed_nil, and_true,
    Target.rows] at h ⊢
  unfold writesARows writesXRows writesNZRows
  simp only [List.mem_append, h, true_or, or_true, and_self]

/-- The rows of ADC, SBC, RRA, ISC, ARR, USBC. -/
def arithmeticRows : List Byte :=
  [0x61, 0x65, 0x69, 0x6D, 0x71, 0x75, 0x79, 0x7D] ++ [0xE1, 0xE5, 0xE9, 0xED, 0xF1, 0xF5, 0xF9, 0xFD] ++
  [0x63, 0x67, 0x6F, 0x73, 0x77, 0x7B, 0x7F] ++ [0xE3, 0xE7, 0xEF, 0xF3, 0xF7, 0xFB, 0xFF] ++ [0x6B] ++ [0xEB]

theorem listed_arithmetic {op : Byte} (h : arithmeticRows.contains op = true) : Listed [.a, .c, .v, .nz] op := by
  simp only [List.contains_iff_mem, arithmeticRows, List.mem_append, listed_cons, listed_nil, and_true,
    Target.rows] at h ⊢
  unfold writesARows writesCRows writesVRows writesNZRows
  rcases h with ((((h | h) | h) | h) | h) | h <;> simp only [List.mem_append, h, true_or, or_true, and_self]

/-- The rows of SLO, RLA, SRE, ANC, ALR. -/
def shiftARows : List Byte :=
  [0x03, 0x07, 0x0F, 0x13, 0x17, 0x1B, 0x1F] ++ [0x23, 0x27, 0x2F, 0x33, 0x37, 0x3B, 0x3F] ++
  [0x43, 0x47, 0x4F, 0x53, 0x57, 0x5B, 0x5F] ++ [0x0B, 0x2B] ++ [0x4B]

theorem listed_shiftA {op : Byte} (h : shiftARows.contains op = true) : Listed [.a, .c, .nz] op := by
  simp only [List.contains_iff_mem, shiftARows, List.mem_append, listed_cons, listed_nil, and_true,
    Target.rows] at h ⊢
  unfold writesARows writesCRows writesNZRows
  rcases h with (((h | h) | h) | h) | h <;> simp only [List.mem_append, h, true_or, or_true, and_self]

/-- The rows of ASL A, LSR A, ROL A, ROR A. -/
theorem listed_accumulator : ∀ op ∈ ([0x0A, 0x4A, 0x2A, 0x6A] : List Byte), Listed [.a, .c, .nz] op := by
  unfold Listed
  decide

/-- The rows of ASL, LSR, ROL, ROR, CMP, CPX, CPY, DCP. -/
def shiftCompareRows : List Byte :=
  [0x06, 0x0A, 0x0E, 0x16, 0x1E] ++ [0x46, 0x4A, 0x4E, 0x56, 0x5E] ++ [0x26, 0x2A, 0x2E, 0x36, 0x3E] ++
  [0x66, 0x6A, 0x6E, 0x76, 0x7E] ++ [0xC1, 0xC5, 0xC9, 0xCD, 0xD1, 0xD5, 0xD9, 0xDD] ++ [0xE0, 0xE4, 0xEC] ++
  [0xC0, 0xC4, 0xCC] ++ [0xC3, 0xC7, 0xCF, 0xD3, 0xD7, 0xDB, 0xDF]

theorem listed_shiftCompare {op : Byte} (h : shiftCompareRows.contains op = true) : Listed [.c, .nz] op := by
  simp only [List.contains_iff_mem, shiftCompareRows, List.mem_append, listed_cons, listed_nil, and_true,
    Target.rows] at h ⊢
  unfold writesCRows writesNZRows
  rcases h with ((((((h | h) | h) | h) | h) | h) | h) | h <;>
    simp only [List.mem_append, h, true_or, or_true, and_self]

/-- The rows of INC, DEC. -/
def countRows : List Byte := [0xE6, 0xEE, 0xF6, 0xFE] ++ [0xC6, 0xCE, 0xD6, 0xDE]

theorem listed_count {op : Byte} (h : countRows.contains op = true) : Listed [.nz] op := by
  simp only [List.contains_iff_mem, countRows, List.mem_append, listed_cons, listed_nil, and_true,
    Target.rows] at h ⊢
  unfold writesNZRows
  rcases h with h | h <;> simp only [List.mem_append, h, true_or, or_true]

/-- The rows of BIT. -/
theorem listed_bit {op : Byte} (h : ([0x24, 0x2C] : List Byte).contains op = true) : Listed [.v, .nz] op := by
  simp only [List.contains_iff_mem, listed_cons, listed_nil, and_true,
    Target.rows] at h ⊢
  unfold writesVRows writesNZRows
  simp only [List.mem_append, h, true_or, or_true, and_self]

/-- The row of SBX. -/
theorem listed_sbx : Listed [.x, .c, .nz] 0xCB := by unfold Listed; decide

/-- The row of PLA, for what it does with the byte pulled. -/
theorem listed_pla : Listed [.a, .nz] 0x68 := by unfold Listed; decide

/-- The rows of PLP and RTI, for the flags. -/
theorem listed_setP : ∀ op ∈ ([0x28, 0x40] : List Byte), Listed [.c, .i, .d, .v, .nz] op := by
  unfold Listed
  decide

/-! ## The micro-steps of an instruction -/

/-- One thing an instruction with the opcode `op` does on its way: a write of registers and flags its row is listed for, a
MemRead, a MemWrite, the PC's change by a control transfer (R42), BRK's record, or JAM's record and mode (R47, R414). -/
inductive MicroStep (op : Byte) : State → State → Prop
  | registers {w : List Target} {s t : State} (hlisted : Listed w op) (h : WritesOnly w s t) : MicroStep op s t
  | read (a : Addr) (s : State) : MicroStep op s (memRead a s).2
  | write (a : Addr) (v : Byte) (s : State) : MicroStep op s (memWrite a v s)
  | jump (hop : controlRows.contains op = true) (pc : Addr) (s : State) : MicroStep op s { s with pc := pc }
  | record (hop : op = 0x00) (ev : Event) (s : State) : MicroStep op s (s.record ev)
  | jam (hop : jamOpcodes.contains op = true) (ev : Event) (s : State) :
      MicroStep op s ({ s with mode := .jammed }.record ev)

/-- A run of micro-steps. -/
abbrev MicroSteps (op : Byte) : State → State → Prop := Relation.ReflTransGen (MicroStep op)

theorem push_microSteps {op : Byte} (hsp : Listed [.sp] op) (v : Byte) (s : State) : MicroSteps op s (push v s) :=
  .tail (.single (.write (stackAddr s.sp) v s)) (.registers hsp (sp_writesOnly _ _))

theorem pull_microSteps {op : Byte} (hsp : Listed [.sp] op) (s : State) : MicroSteps op s (pull s).2 :=
  .tail (.single (.registers hsp (sp_writesOnly (s.sp + 1) s))) (.read _ _)

theorem pushAddr_microSteps {op : Byte} (hsp : Listed [.sp] op) (a : Addr) (s : State) :
    MicroSteps op s (pushAddr a s) :=
  (push_microSteps hsp _ s).trans (push_microSteps hsp _ _)

theorem pullAddr_microSteps {op : Byte} (hsp : Listed [.sp] op) (s : State) : MicroSteps op s (pullAddr s).2 :=
  (pull_microSteps hsp s).trans (pull_microSteps hsp _)

theorem memRead16_microSteps {op : Byte} (a : Addr) (s : State) : MicroSteps op s (memRead16 a s).2 :=
  .tail (.single (.read a s)) (.read _ _)

/-! ## How an instruction completes -/

/-- An instruction of the table costs one to eight cycles (R620), and a jam opcode JAM_CYCLES (R351). -/
def InstrCost (p : Params) (n : Nat) : Prop := 1 ≤ n ∧ n ≤ 8 ∨ n = p.jamCycles

/-- All that an instruction with the opcode `op` can do from `s`: a run of micro-steps and then its cost, or, where
ILLEGAL_SET leaves it out, the effect of an undecoded opcode (R370). -/
inductive Completes (op : Byte) (s : State) : State → Prop
  | decoded {u : State} {n : Nat} (hrun : MicroSteps op s u) (hcost : InstrCost s.params n) :
      Completes op s (u.addCycles n)
  | undecoded (h : isUndecoded s.params op = true) : Completes op s (undecoded op s)

/-- If the result is a state, the instruction completes with it. -/
def CompletesIn (op : Byte) (s : State) (r : Result) : Prop := ∀ t, r = .next t → Completes op s t

theorem completesIn_next {op : Byte} {s t : State} (h : Completes op s t) : CompletesIn op s (.next t) := by
  rintro _ ⟨⟩
  exact h

theorem complete_completesIn {op : Byte} {s u : State} {n : Nat} (hrun : MicroSteps op s u) (hn : 1 ≤ n ∧ n ≤ 8) :
    CompletesIn op s (complete n u) :=
  completesIn_next (.decoded hrun (.inl hn))

theorem registers_completesIn {op : Byte} {w : List Target} {s u : State} {n : Nat} (hlisted : Listed w op)
    (h : WritesOnly w s u) (hn : 1 ≤ n ∧ n ≤ 8) : CompletesIn op s (complete n u) :=
  complete_completesIn (.single (.registers hlisted h)) hn

theorem Ea.cost_bounds (e : Ea) {base : Nat} (h : 1 ≤ base ∧ base ≤ 7) : 1 ≤ e.cost base ∧ e.cost base ≤ 8 := by
  unfold Ea.cost
  split <;> omega

theorem readThen_completesIn {op : Byte} {w : List Target} {e : Ea} {base : Nat} {f : Byte → State → State} {s : State}
    (hlisted : Listed w op) (hf : ∀ v u, WritesOnly w u (f v u)) (hbase : 1 ≤ base ∧ base ≤ 7) :
    CompletesIn op s (readThen e base f s) :=
  complete_completesIn (.tail (.single (.read e.addr s)) (.registers hlisted (hf _ _))) (e.cost_bounds hbase)

theorem storeAt_completesIn {op : Byte} {e : Ea} {n : Nat} {v : Byte} {s : State} (hn : 1 ≤ n ∧ n ≤ 8) :
    CompletesIn op s (storeAt e n v s) :=
  complete_completesIn (.single (.write e.addr v s)) hn

theorem modifyAt_completesIn {op : Byte} {w : List Target} {e : Ea} {n : Nat} {f : Byte → State → Byte × State}
    {k : Byte → State → State} {s : State} (hlisted : Listed w op) (hf : ∀ v u, WritesOnly w u (f v u).2)
    (hk : ∀ v u, WritesOnly w u (k v u)) (hn : 1 ≤ n ∧ n ≤ 8) : CompletesIn op s (modifyAt e n f k s) :=
  complete_completesIn
    (.tail (.tail (.tail (.single (.read e.addr s)) (.registers hlisted (hf _ _))) (.write _ _ _))
      (.registers hlisted (hk _ _))) hn

theorem branchIf_completesIn {op : Byte} {cond : Bool} {off : Int} {s : State} (hop : controlRows.contains op = true) :
    CompletesIn op s (branchIf cond off s) := by
  cases cond
  case false => exact complete_completesIn .refl (by decide)
  case true => exact complete_completesIn (.single (.jump hop _ s)) (by split <;> decide)

/-! ## The illegal opcodes (R350, R370) -/

theorem undecoded_completesIn {op : Byte} {s : State} (hop : isIllegalOpcode op = true)
    (hset : ¬ s.params.illegalSet.contains op = true) : CompletesIn op s (.next (undecoded op s)) :=
  completesIn_next (.undecoded (by simpa [isUndecoded, hop] using hset))

theorem ifInIllegalSet_completesIn {op : Byte} {f : State → Result} {s : State} (hop : isIllegalOpcode op = true)
    (h : CompletesIn op s (f s)) : CompletesIn op s (ifInIllegalSet op f s) := by
  unfold ifInIllegalSet
  split
  · exact h
  · exact undecoded_completesIn hop ‹_›

theorem unstableOpcode_completesIn {op : Byte} {s : State} (hop : unstableIllegal.contains op = true) :
    CompletesIn op s (unstableOpcode op s) := by
  unfold unstableOpcode
  split
  · rintro t ⟨⟩
  · exact undecoded_completesIn (by simp only [isIllegalOpcode, hop, Bool.or_true]) ‹_›

/-- The five families of R352 are illegal. -/
theorem isIllegalOpcode_of_family {op : Byte}
    (h : illegalShiftOpcodes.contains op = true ∨ illegalCountOpcodes.contains op = true ∨
      illegalMoveOpcodes.contains op = true ∨ illegalImmediateOpcodes.contains op = true ∨
      illegalNopOpcodes.contains op = true) : isIllegalOpcode op = true := by
  simp only [List.contains_iff_mem] at h
  simp only [isIllegalOpcode, stableIllegal, Bool.or_eq_true, List.contains_iff_mem, List.mem_append]
  tauto

theorem isIllegalOpcode_of_shift {op : Byte} (h : illegalShiftOpcodes.contains op = true) : isIllegalOpcode op = true :=
  isIllegalOpcode_of_family (.inl h)

theorem isIllegalOpcode_of_count {op : Byte} (h : illegalCountOpcodes.contains op = true) : isIllegalOpcode op = true :=
  isIllegalOpcode_of_family (.inr (.inl h))

theorem isIllegalOpcode_of_move {op : Byte} (h : illegalMoveOpcodes.contains op = true) : isIllegalOpcode op = true :=
  isIllegalOpcode_of_family (.inr (.inr (.inl h)))

theorem isIllegalOpcode_of_immediate {op : Byte} (h : illegalImmediateOpcodes.contains op = true) :
    isIllegalOpcode op = true :=
  isIllegalOpcode_of_family (.inr (.inr (.inr (.inl h))))

theorem isIllegalOpcode_of_nop {op : Byte} (h : illegalNopOpcodes.contains op = true) : isIllegalOpcode op = true :=
  isIllegalOpcode_of_family (.inr (.inr (.inr (.inr h))))

/-- The opcode that a constructor carries is one of its rows' (WellFormed), so it is in every list that holds those. -/
theorem contains_of_rows {l l' : List Byte} {op : Byte} (hl : ∀ o ∈ l, l'.contains o = true)
    (h : l.contains op = true) : l'.contains op = true :=
  hl op (List.contains_iff_mem.1 h)

theorem illegalNop_completesIn {op : Byte} {n : Nat} {s : State} (hop : illegalNopOpcodes.contains op = true)
    (hn : 1 ≤ n ∧ n ≤ 8) : CompletesIn op s (ifInIllegalSet op (fun s => complete n s) s) :=
  ifInIllegalSet_completesIn (isIllegalOpcode_of_nop hop) (complete_completesIn .refl hn)

/-! ## Control transfers and the stack (R310 to R313) -/

theorem jumpIndirect_microSteps {op : Byte} (a : Addr) (s : State) : MicroSteps op s (jumpIndirect a s).2 :=
  .tail (.single (.read a s)) (.read _ _)

theorem returnFromSubroutine_microSteps {op : Byte} (hsp : Listed [.sp] op)
    (hop : controlRows.contains op = true) (s : State) : MicroSteps op s (returnFromSubroutine s) :=
  .tail (pullAddr_microSteps hsp s) (.jump hop _ _)

theorem returnFromInterrupt_microSteps {op : Byte} (hsp : Listed [.sp] op) (hflags : Listed [.c, .i, .d, .v, .nz] op)
    (hop : controlRows.contains op = true) (s : State) : MicroSteps op s (returnFromInterrupt s) :=
  have hflagsPulled : MicroSteps op s (setP (pull s).1 (pull s).2) :=
    .tail (pull_microSteps hsp s) (.registers hflags (setP_writesOnly _ _))
  .tail (hflagsPulled.trans (pullAddr_microSteps hsp _)) (.jump hop _ _)

theorem brk_completesIn (s : State) : CompletesIn 0x00 s (execBrk s) := by
  have hsp : Listed [.sp] 0x00 := listed_single rfl
  let pushed := push (getP s.flags) (pushAddr (s.pc + 1) s)
  have hpushed : MicroSteps 0x00 s pushed := (pushAddr_microSteps hsp _ s).trans (push_microSteps hsp _ _)
  have hmasked : MicroSteps 0x00 s (setI pushed) := .tail hpushed (.registers (listed_single (r := .i) rfl) rfl)
  have hread := hmasked.trans (memRead16_microSteps s.params.vecIrq _)
  exact completesIn_next (.decoded (.tail (.tail hread (.jump rfl _ _)) (.record rfl _ _)) (.inl (by decide)))

theorem jam_completesIn {op : Byte} (hop : jamOpcodes.contains op = true) (s : State) :
    CompletesIn op s (execJam op s) :=
  completesIn_next (.decoded (.single (.jam hop _ s)) (.inr rfl))

/-! ## Every instruction -/

/-- What any well-formed instruction can do, family by family. The rows' lists are computed from the opcode, and what an
operation writes is read off its definition (`rfl`), but for the three operations that depend on D. -/
theorem exec_completesIn (i : Instr) (s : State) (hwf : WellFormed i) : CompletesIn (opcodeOf i) s (exec i s) := by
  unfold exec
  cases i with
  -- loads, logic and compares
  | ldaIzx | ldaZp | ldaAbs | ldaIzy | ldaZpx | ldaAbsy | ldaAbsx | andIzx | andZp | andAbs | andIzy | andZpx
    | andAbsy | andAbsx | oraIzx | oraZp | oraAbs | oraIzy | oraZpx | oraAbsy | oraAbsx | eorIzx | eorZp
    | eorAbs | eorIzy | eorZpx | eorAbsy | eorAbsx =>
    exact readThen_completesIn (listed_loadA rfl) (fun _ _ => rfl) (by decide)
  | ldaImm | andImm | oraImm | eorImm | txa | tya =>
    exact registers_completesIn (listed_loadA rfl) rfl (by decide)
  | ldxZp | ldxAbs | ldxZpy | ldxAbsy =>
    exact readThen_completesIn (listed_loadX rfl) (fun _ _ => rfl) (by decide)
  | ldxImm | tax | tsx | inx | dex =>
    exact registers_completesIn (listed_loadX rfl) rfl (by decide)
  | ldyZp | ldyAbs | ldyZpx | ldyAbsx =>
    exact readThen_completesIn (listed_loadY rfl) (fun _ _ => rfl) (by decide)
  | ldyImm | tay | iny | dey =>
    exact registers_completesIn (listed_loadY rfl) rfl (by decide)
  | bitZp | bitAbs =>
    exact readThen_completesIn (listed_bit rfl) (fun _ _ => rfl) (by decide)
  | cmpIzx | cmpZp | cmpAbs | cmpIzy | cmpZpx | cmpAbsy | cmpAbsx | cpxZp | cpxAbs | cpyZp | cpyAbs =>
    exact readThen_completesIn (listed_shiftCompare rfl) (fun _ _ => rfl) (by decide)
  | cmpImm | cpxImm | cpyImm =>
    exact registers_completesIn (listed_shiftCompare rfl) rfl (by decide)
  -- add and subtract
  | adcIzx | adcZp | adcAbs | adcIzy | adcZpx | adcAbsy | adcAbsx =>
    exact readThen_completesIn (listed_arithmetic rfl) addWithCarry_writesOnly (by decide)
  | adcImm =>
    exact registers_completesIn (listed_arithmetic rfl) (addWithCarry_writesOnly _ _) (by decide)
  | sbcIzx | sbcZp | sbcAbs | sbcIzy | sbcZpx | sbcAbsy | sbcAbsx =>
    exact readThen_completesIn (listed_arithmetic rfl) subtractWithBorrow_writesOnly (by decide)
  | sbcImm =>
    exact registers_completesIn (listed_arithmetic rfl) (subtractWithBorrow_writesOnly _ _) (by decide)
  -- stores, counts and shifts
  | staIzx | staZp | staAbs | staIzy | staZpx | staAbsy | staAbsx | stxZp | stxAbs | stxZpy | styZp | styAbs
    | styZpx =>
    exact storeAt_completesIn (by decide)
  | incZp | incAbs | incZpx | incAbsx | decZp | decAbs | decZpx | decAbsx =>
    exact modifyAt_completesIn (listed_count rfl) (fun _ _ => rfl) (fun _ _ => rfl) (by decide)
  | aslZp | aslAbs | aslZpx | aslAbsx | lsrZp | lsrAbs | lsrZpx | lsrAbsx | rolZp | rolAbs | rolZpx | rolAbsx
    | rorZp | rorAbs | rorZpx | rorAbsx =>
    exact modifyAt_completesIn (listed_shiftCompare rfl) (fun _ _ => rfl) (fun _ _ => rfl) (by decide)
  | aslAcc | lsrAcc | rolAcc | rorAcc =>
    exact registers_completesIn (listed_accumulator _ (List.contains_iff_mem.1 rfl)) rfl (by decide)
  -- branches, jumps, the stack and the flags
  | bpl | bmi | bvc | bvs | bcc | bcs | bne | beq =>
    exact branchIf_completesIn rfl
  | jmpAbs =>
    exact complete_completesIn (.single (.jump rfl _ s)) (by decide)
  | jmpInd =>
    exact complete_completesIn (.tail (jumpIndirect_microSteps _ s) (.jump rfl _ _)) (by decide)
  | jsrAbs =>
    exact complete_completesIn (.tail (pushAddr_microSteps (listed_single rfl) _ s) (.jump rfl _ _)) (by decide)
  | rts =>
    exact complete_completesIn (returnFromSubroutine_microSteps (listed_single rfl) rfl s) (by decide)
  | rti =>
    exact complete_completesIn
      (returnFromInterrupt_microSteps (listed_single rfl) (listed_setP 0x40 (by decide)) rfl s) (by decide)
  | brk =>
    exact brk_completesIn s
  | pha | php =>
    exact complete_completesIn (push_microSteps (listed_single rfl) _ s) (by decide)
  | pla =>
    exact complete_completesIn (.tail (pull_microSteps (listed_single rfl) s) (.registers listed_pla rfl)) (by decide)
  | plp =>
    exact complete_completesIn
      (.tail (pull_microSteps (listed_single rfl) s) (.registers (listed_setP 0x28 (by decide)) (setP_writesOnly _ _)))
      (by decide)
  | txs =>
    exact registers_completesIn (listed_single (r := .sp) rfl) rfl (by decide)
  | clc | sec =>
    exact registers_completesIn (listed_single (r := .c) (by decide)) rfl (by decide)
  | cli | sei =>
    exact registers_completesIn (listed_single (r := .i) (by decide)) rfl (by decide)
  | cld | sed =>
    exact registers_completesIn (listed_single (r := .d) (by decide)) rfl (by decide)
  | clv =>
    exact registers_completesIn (listed_single (r := .v) (by decide)) rfl (by decide)
  | nop =>
    exact complete_completesIn .refl (by decide)
  -- the illegal opcodes
  | sloIzx | sloZp | sloAbs | sloIzy | sloZpx | sloAbsy | sloAbsx | rlaIzx | rlaZp | rlaAbs | rlaIzy | rlaZpx
    | rlaAbsy | rlaAbsx | sreIzx | sreZp | sreAbs | sreIzy | sreZpx | sreAbsy | sreAbsx =>
    exact ifInIllegalSet_completesIn (isIllegalOpcode_of_shift rfl)
      (modifyAt_completesIn (listed_shiftA rfl) (fun _ _ => rfl) (fun _ _ => rfl) (by decide))
  | rraIzx | rraZp | rraAbs | rraIzy | rraZpx | rraAbsy | rraAbsx =>
    exact ifInIllegalSet_completesIn (isIllegalOpcode_of_shift rfl)
      (modifyAt_completesIn (listed_arithmetic rfl) (fun _ _ => rfl) addWithCarry_writesOnly (by decide))
  | dcpIzx | dcpZp | dcpAbs | dcpIzy | dcpZpx | dcpAbsy | dcpAbsx =>
    exact ifInIllegalSet_completesIn (isIllegalOpcode_of_count rfl)
      (modifyAt_completesIn (listed_shiftCompare rfl) (fun _ _ => rfl) (fun _ _ => rfl) (by decide))
  | iscIzx | iscZp | iscAbs | iscIzy | iscZpx | iscAbsy | iscAbsx =>
    exact ifInIllegalSet_completesIn (isIllegalOpcode_of_count rfl)
      (modifyAt_completesIn (listed_arithmetic rfl) (fun _ _ => rfl) subtractWithBorrow_writesOnly (by decide))
  | saxIzx | saxZp | saxAbs | saxZpy =>
    exact ifInIllegalSet_completesIn (isIllegalOpcode_of_move rfl) (storeAt_completesIn (by decide))
  | laxIzx | laxZp | laxAbs | laxIzy | laxZpy | laxAbsy =>
    exact ifInIllegalSet_completesIn (isIllegalOpcode_of_move rfl)
      (readThen_completesIn (listed_loadAX rfl) (fun _ _ => rfl) (by decide))
  | ancImm =>
    exact ifInIllegalSet_completesIn (isIllegalOpcode_of_immediate (contains_of_rows (by decide) hwf))
      (registers_completesIn (listed_shiftA (contains_of_rows (by decide) hwf)) rfl (by decide))
  | alrImm =>
    exact ifInIllegalSet_completesIn (isIllegalOpcode_of_immediate rfl)
      (registers_completesIn (listed_shiftA rfl) rfl (by decide))
  | arrImm =>
    exact ifInIllegalSet_completesIn (isIllegalOpcode_of_immediate rfl)
      (registers_completesIn (listed_arithmetic rfl) (andRotateRight_writesOnly _ _) (by decide))
  | sbxImm =>
    exact ifInIllegalSet_completesIn (isIllegalOpcode_of_immediate rfl)
      (registers_completesIn listed_sbx rfl (by decide))
  | usbcImm =>
    exact ifInIllegalSet_completesIn (isIllegalOpcode_of_immediate rfl)
      (registers_completesIn (listed_arithmetic rfl) (subtractWithBorrow_writesOnly _ _) (by decide))
  | nopZp | nopZpx | nopImp | nopImm =>
    exact illegalNop_completesIn (contains_of_rows (by decide) hwf) (by decide)
  | nopAbs =>
    exact illegalNop_completesIn rfl (by decide)
  | nopAbsx =>
    exact illegalNop_completesIn (contains_of_rows (by decide) hwf) (Ea.cost_bounds _ (by decide))
  | aneImm | lxaImm | shaIzy | shaAbsy | shxAbsy | shyAbsx | tasAbsy | lasAbsy =>
    exact unstableOpcode_completesIn rfl
  | jam =>
    exact jam_completesIn hwf s

end Sys2Proof.Machine
end

section
/-!
PROOFS. The frames of every instruction: each from what one micro-step can do, carried along the run of them.
-/

namespace Sys2Proof.Machine

open Sys2Proof.Safety

/-! ## Registers and flags (R41, R45) -/

theorem Target.same_of_registers {s t : State} (ha : t.a = s.a) (hx : t.x = s.x) (hy : t.y = s.y) (hsp : t.sp = s.sp)
    (hflags : t.flags = s.flags) (r : Target) : r.Same s t := by
  cases r <;> simp [Target.Same, ha, hx, hy, hsp, hflags]

theorem Target.Same.trans {r : Target} {s t u : State} (h : r.Same s t) (h' : r.Same t u) : r.Same s u := by
  cases r
  case nz => exact ⟨h'.1.trans h.1, h'.2.trans h.2⟩
  all_goals exact Eq.trans h' h

/-- A micro-step leaves a register or flag that its row is not listed for. -/
theorem MicroStep.same {op : Byte} {s t : State} (h : MicroStep op s t) {r : Target} (hr : op ∉ r.rows) :
    r.Same s t := by
  cases h with
  | registers hlisted h => exact h.same fun hmem => hr (hlisted r hmem)
  | read a => exact r.same_of_registers (by simp) (by simp) (by simp) (by simp) (by simp)
  | write a v => exact r.same_of_registers (by simp) (by simp) (by simp) (by simp) (by simp)
  | jump | record | jam => exact r.same_of_registers rfl rfl rfl rfl rfl

theorem MicroSteps.same {op : Byte} {s t : State} (h : MicroSteps op s t) {r : Target} (hr : op ∉ r.rows) :
    r.Same s t := by
  induction h with
  | refl => exact r.same_of_registers rfl rfl rfl rfl rfl
  | tail _ hstep ih => exact ih.trans (hstep.same hr)

theorem Completes.same {op : Byte} {s t : State} (h : Completes op s t) {r : Target} (hr : op ∉ r.rows) :
    r.Same s t := by
  cases h with
  | decoded hrun => exact (hrun.same hr).trans (r.same_of_registers rfl rfl rfl rfl rfl)
  | undecoded => exact r.same_of_registers rfl rfl rfl rfl rfl

/-- Settles O26: no micro-step of an instruction writes what its row is not listed for. -/
theorem registerAndFlagWriters : Obligations.RegisterAndFlagWriters := by
  intro i s t hwf hexec
  have hsame : ∀ r : Target, opcodeOf i ∉ r.rows → r.Same s t := fun r => (exec_completesIn i s hwf t hexec).same
  exact ⟨hsame .a, hsame .x, hsame .y, hsame .sp, hsame .c, hsame .i, hsame .d, hsame .v, hsame .nz⟩

/-! ## The rest of the machine (R42, R47, R48, R95, R111, R602) -/

/-- What no micro-step writes: the requests other than reset, the scheduler's line and target, the video unit, the loop's
position, what the host has asked for, the configuration and the cycle count. -/
def machinePart (s : State) : (Bool × Bool × Nat × Nat × Video) × (Phase × Nat × List HostAction × Params × Nat) :=
  ((s.nmiPending, s.irqPending, s.line, s.lineTarget, s.video),
   (s.phase, s.frameRequests, s.hostActions, s.params, s.cycles))

/-- What micro-steps of an instruction with the opcode `op` keep of the machine beside its registers and memories. -/
structure MachineKept (op : Byte) (s t : State) : Prop where
  part : machinePart t = machinePart s
  params : t.params = s.params
  reset : s.resetPending = true → t.resetPending = true
  noReset : NoHostCallback s.params → t.resetPending = s.resetPending
  mode : op ∉ jamOpcodes → t.mode = s.mode
  events : op ∉ jamOpcodes → op ≠ 0x00 → t.events = s.events
  pc : op ∉ controlRows → t.pc = s.pc

theorem MachineKept.refl (op : Byte) (s : State) : MachineKept op s s :=
  ⟨rfl, rfl, id, fun _ => rfl, fun _ => rfl, fun _ _ => rfl, fun _ => rfl⟩

theorem MachineKept.trans {op : Byte} {s t u : State} (h : MachineKept op s t) (h' : MachineKept op t u) :
    MachineKept op s u where
  part := h'.part.trans h.part
  params := h'.params.trans h.params
  reset hr := h'.reset (h.reset hr)
  noReset hno := (h'.noReset (h.params ▸ hno)).trans (h.noReset hno)
  mode hop := (h'.mode hop).trans (h.mode hop)
  events hjam hbrk := (h'.events hjam hbrk).trans (h.events hjam hbrk)
  pc hop := (h'.pc hop).trans (h.pc hop)

/-- One micro-step: only the host's interceptions ask for a reset, and the mode, the record and the PC change only in the rows
of their own micro-steps. -/
theorem MicroStep.machineKept {op : Byte} {s t : State} (h : MicroStep op s t) : MachineKept op s t := by
  cases h with
  | registers _ h =>
    have hreset := h.frame State.resetPending fun _ _ _ _ _ => rfl
    exact
      { part := h.frame machinePart fun _ _ _ _ _ => rfl
        params := h.frame State.params fun _ _ _ _ _ => rfl
        reset := fun hr => hreset.trans hr
        noReset := fun _ => hreset
        mode := fun _ => h.frame State.mode fun _ _ _ _ _ => rfl
        events := fun _ _ => h.frame State.events fun _ _ _ _ _ => rfl
        pc := fun _ => h.frame State.pc fun _ _ _ _ _ => rfl }
  | read a =>
    obtain ⟨hkept, hasked⟩ := memRead_resetPending a s
    exact ⟨by simp [machinePart], by simp, hkept, fun hno => hasked hno.1, by simp, by simp, by simp⟩
  | write a v =>
    obtain ⟨hkept, hasked⟩ := memWrite_resetPending a v s
    exact ⟨by simp [machinePart], by simp, hkept, fun hno => (hasked hno.2).1, by simp, by simp, by simp⟩
  | jump hop =>
    exact { MachineKept.refl op s with pc := fun hnot => absurd (List.contains_iff_mem.1 hop) hnot }
  | record hop =>
    exact { MachineKept.refl op s with events := fun _ hnot => absurd hop hnot }
  | jam hop =>
    exact
      { MachineKept.refl op s with
        mode := fun hnot => absurd (List.contains_iff_mem.1 hop) hnot
        events := fun hnot => absurd (List.contains_iff_mem.1 hop) hnot }

theorem MicroSteps.machineKept {op : Byte} {s t : State} (h : MicroSteps op s t) : MachineKept op s t := by
  induction h with
  | refl => exact .refl op s
  | tail _ hstep ih => exact ih.trans hstep.machineKept

/-- Every cost of an instruction is at least a cycle (R453). -/
theorem InstrCost.pos {p : Params} {n : Nat} (h : InstrCost p n) (hp : StepsCost p) : 0 < n := by
  obtain ⟨-, -, -, hjam, -⟩ := hp
  obtain ⟨hpos, -⟩ | rfl := h
  · exact hpos
  · exact hjam

/-- Settles O27: by what one micro-step keeps, and by the one effect of an undecoded opcode. -/
theorem machineFrame : Obligations.MachineFrame := by
  intro i s t hwf hexec
  cases exec_completesIn i s hwf t hexec with
  | @decoded u n hrun hcost =>
    obtain ⟨hpart, hparams, hreset, hnoReset, hmode, hevents, hpc⟩ := hrun.machineKept
    simp only [machinePart, Prod.mk.injEq] at hpart
    obtain ⟨⟨hnmi, hirq, hline, htarget, hvideo⟩, hphase, hframes, hactions, -, hcycles⟩ := hpart
    have hgrows : StepsCost s.params → s.cycles < (u.addCycles n).cycles := fun hp => by
      have := hcost.pos hp
      simp only [addCycles_fields, hcycles]
      omega
    exact ⟨hreset, hnoReset, hnmi, hirq, hline, htarget, hvideo, hphase, hframes, hactions, hparams, hgrows, hmode,
      fun hjam hbrk _ => hevents hjam hbrk, fun hop _ => hpc hop⟩
  | undecoded hundecoded =>
    have hgrows : StepsCost s.params → s.cycles < (undecoded (opcodeOf i) s).cycles :=
      fun ⟨_, _, hcost, _, _⟩ => Nat.lt_add_of_pos_right hcost
    have hpc : s.params.undecodedLen = 1 → (undecoded (opcodeOf i) s).pc = s.pc := fun hlen => by
      simp [undecoded, hlen]
    exact ⟨id, fun _ => rfl, rfl, rfl, rfl, rfl, rfl, rfl, rfl, rfl, rfl, hgrows, fun _ => rfl,
      fun _ _ hdecoded => by simp [hundecoded] at hdecoded,
      fun _ hlen => hpc (hlen.resolve_left (by simp [hundecoded]))⟩

end Sys2Proof.Machine
end

section
/-!
PROOFS. The canonical form of RAM and SHADOW along every step of the block (R50).
-/

namespace Sys2Proof.Machine

open Sys2Proof.Safety

/-! ## An instruction -/

theorem memoryInv_microStep {op : Byte} {s t : State} (h : MemoryInv s) (hstep : MicroStep op s t) : MemoryInv t := by
  cases hstep with
  | registers _ hw =>
    exact memoryInv_congr (hw.frame State.ram fun _ _ _ _ _ => rfl) (hw.frame State.shadow fun _ _ _ _ _ => rfl) h
  | read a => exact memoryInv_memRead h a
  | write a v => exact memoryInv_memWrite h a v
  | jump | record | jam => exact memoryInv_congr rfl rfl h

theorem memoryInv_microSteps {op : Byte} {s t : State} (h : MemoryInv s) (hrun : MicroSteps op s t) : MemoryInv t := by
  induction hrun with
  | refl => exact h
  | tail _ hstep ih => exact memoryInv_microStep ih hstep

theorem memoryInv_exec {i : Instr} {s t : State} (h : MemoryInv s) (hwf : WellFormed i) (hexec : exec i s = .next t) :
    MemoryInv t := by
  cases exec_completesIn i s hwf t hexec with
  | decoded hrun =>
    have hran := memoryInv_microSteps h hrun
    exact memoryInv_congr rfl rfl hran
  | undecoded => exact memoryInv_congr rfl rfl h

/-! ## A step of the CPU (R400) -/

theorem memoryInv_fetch {s : State} (h : MemoryInv s) : MemoryInv (fetch s).2 :=
  memoryInv_congr (by simp) (by simp) h

theorem memoryInv_fetchIf {s : State} (h : MemoryInv s) (wanted : Bool) : MemoryInv (fetchIf wanted s).2 := by
  cases wanted
  · exact h
  · exact memoryInv_fetch h

/-- The execution of what was fetched for an opcode: the decoder gives a well-formed instruction. -/
theorem memoryInv_exec_fetchOperands {s t : State} (h : MemoryInv s) {op : Byte}
    (hexec : exec (fetchOperands op s).1 (fetchOperands op s).2 = .next t) : MemoryInv t :=
  memoryInv_exec (memoryInv_fetchIf (memoryInv_fetchIf h _) _) (wellFormed_decodeBytes _ _ _) hexec

theorem memoryInv_fetchExecute {s t : State} (h : MemoryInv s) (hstep : fetchExecute s = .next t) : MemoryInv t :=
  memoryInv_exec_fetchOperands (memoryInv_fetch h) hstep

theorem memoryInv_kernalTrap {a : Addr} {s t : State} (h : MemoryInv s) (hstep : kernalTrap a s = .next t) :
    MemoryInv t := by
  have hcalled : MemoryInv { (callTrap a s).record (.trap a) with pc := (callTrap a s).pc + 1 } :=
    memoryInv_congr rfl rfl (memoryInv_callTrap h a)
  exact memoryInv_exec_fetchOperands hcalled hstep

theorem memoryInv_trapOrExecute {s t : State} (h : MemoryInv s) (hstep : trapOrExecute s = .next t) : MemoryInv t := by
  unfold trapOrExecute at hstep
  split at hstep
  · exact memoryInv_kernalTrap h hstep
  · exact memoryInv_fetchExecute h hstep

theorem memoryInv_enterInterrupt {s : State} (h : MemoryInv s) (vec : Addr) (ev : Addr → Byte → Event) :
    MemoryInv (enterInterrupt vec ev s) :=
  memoryInv_takeInterrupt h _ _ _ _ _

theorem memoryInv_runningStep {s t : State} (h : MemoryInv s) (hstep : runningStep s = .next t) : MemoryInv t := by
  have hcleared : ∀ nmi irq, MemoryInv { s with nmiPending := nmi, irqPending := irq } := fun _ _ => h
  unfold runningStep at hstep
  split at hstep
  · obtain rfl := Host.Outcome.next.inj hstep
    exact memoryInv_enterInterrupt (hcleared _ _) _ _
  · split at hstep
    · obtain rfl := Host.Outcome.next.inj hstep
      exact memoryInv_enterInterrupt (hcleared _ _) _ _
    · exact memoryInv_trapOrExecute (hcleared _ _) hstep

theorem memoryInv_doReset {s : State} (h : MemoryInv s) : MemoryInv (doReset s) :=
  memoryInv_congr (by simp [doReset]) (by simp [doReset]) h

theorem memoryInv_cpuStep {s t : State} (h : MemoryInv s) (hstep : cpuStep s = .next t) : MemoryInv t := by
  unfold cpuStep at hstep
  split at hstep
  · cases hstep
    exact memoryInv_doReset h
  · split at hstep
    · cases hstep
      exact memoryInv_congr rfl rfl h
    · exact memoryInv_runningStep h hstep

/-! ## A step of the block and the host's actions (R450, R452, R470) -/

theorem memoryInv_beginLine {s : State} (h : MemoryInv s) (n : Nat) : MemoryInv (beginLine n s) := by
  have hcheck : MemoryInv (rasterCheck { s with line := n }) := by
    unfold rasterCheck
    split <;> exact memoryInv_congr rfl rfl h
  have htimer : MemoryInv (timerLine (rasterCheck { s with line := n })) := by
    unfold timerLine
    split <;> exact memoryInv_congr rfl rfl hcheck
  exact memoryInv_congr rfl rfl htimer

theorem memoryInv_blockStep {s t : State} (h : MemoryInv s) (hstep : blockStep s = .next t) : MemoryInv t := by
  unfold blockStep at hstep
  split at hstep
  case h_1 =>
    split at hstep
    · exact memoryInv_cpuStep h hstep
    · cases hstep
      exact memoryInv_congr rfl rfl h
  case h_2 =>
    cases hstep
    exact memoryInv_beginLine h _
  case h_3 =>
    split at hstep
    · exact memoryInv_cpuStep (s := driveIrqLine s) (memoryInv_congr rfl rfl h) hstep
    · cases hstep
      exact memoryInv_congr rfl rfl h
  case h_4 =>
    cases hstep
    exact memoryInv_congr rfl rfl h

/-- A bulk load stops at the end of RAM (R96), so it keeps the canonical form. -/
theorem wf_loadBytes {m : Memory} (h : m.wf ramSize = true) (start : Nat) (bytes : List Byte) :
    (loadBytes m start bytes).wf ramSize = true := by
  induction bytes generalizing m start with
  | nil => exact h
  | cons b bytes ih =>
    unfold loadBytes
    split
    · exact ih (Memory.wf_write h ‹_›) _
    · exact h

theorem memoryInv_loadImage {s : State} (h : MemoryInv s) (file : Option (List Byte)) :
    MemoryInv (loadImage file s) := by
  unfold loadImage
  split
  case h_1 b0 b1 rest =>
    refine ⟨Memory.wf_write (Memory.wf_write (Memory.wf_writeAll (wf_loadBytes h.1 _ rest) ?_) (BitVec.isLt _))
      (BitVec.isLt _), h.2⟩
    intro w hw
    obtain ⟨v, -, rfl⟩ := List.mem_map.1 hw
    exact v.1.isLt.trans (by decide)
  case h_2 => exact h

theorem memoryInv_applyAction {s : State} (h : MemoryInv s) (act : HostAction) : MemoryInv (applyAction act s) := by
  cases act with
  | loadImage file => exact memoryInv_loadImage h file
  | pause | requestReset | requestNmi | driveIrq | requestFrame | consume => exact memoryInv_congr rfl rfl h

theorem memoryInv_takeListed {s : State} (h : MemoryInv s) (acts : List HostAction) : MemoryInv (takeListed acts s) := by
  induction acts generalizing s with
  | nil => exact memoryInv_congr rfl rfl h
  | cons act acts ih =>
    cases act
    case pause => exact memoryInv_congr rfl rfl h
    all_goals exact ih (memoryInv_applyAction h _)

/-- Settles O44: the host's actions keep the canonical form, and so does every action of the block. -/
theorem memoryInvariant : Obligations.MemoryInvariant :=
  fun s _ h hstep => memoryInv_blockStep (memoryInv_takeListed h s.hostActions) hstep

end Sys2Proof.Machine
end

section
/-!
PROOFS. The packed status byte (R43, R44), and the state that the reset step leaves (R402, R600).
-/

namespace Sys2Proof.Machine

open Sys2Proof.Safety

/-- Bits 5 and 4 of the packed status byte read 1 (R43). -/
theorem getP_constant_bits (f : Flags) : (getP f).getLsbD 5 = true ∧ (getP f).getLsbD 4 = true := by
  simp [getP]

/-- Settles O13: the six flags' bits are what SetP reads back. -/
theorem statusByte : Obligations.StatusByte := by
  refine ⟨fun f => ?_, fun _ _ => rfl, fun _ _ _ => rfl⟩
  have hback : flagsOfP (getP f) = f := flagsOfP_getP f
  obtain ⟨h5, h4⟩ := getP_constant_bits f
  exact ⟨congrArg Flags.n hback, congrArg Flags.v hback, h5, h4, congrArg Flags.d hback, congrArg Flags.i hback,
    congrArg Flags.z hback, congrArg Flags.c hback⟩

/-! ## Creation and reset (R53, R403, R502, R554, R600) -/

theorem doReset_creation : doReset State.creation = State.reset := by
  obtain ⟨-, hvector, -⟩ := inRam_default State.creation
  exact doReset_eq hvector

theorem step_creation : step State.creation = .next State.reset := by
  have hreset : cpuStep State.creation = .next (doReset State.creation) := if_pos rfl
  rw [step, takeActions_of_nil rfl, blockStep_idle rfl rfl, hreset, doReset_creation]

theorem memoryInv_creation : MemoryInv State.creation :=
  ⟨Memory.wf_nil ramSize, Memory.wf_nil shadowSize⟩

theorem schedulerInv_creation : SchedulerInv State.creation :=
  ⟨by decide, by decide, by decide, nofun⟩

theorem surfaceShape_blankSurface : SurfaceShape blankSurface :=
  ⟨List.length_replicate, fun r hr => by rw [List.eq_of_mem_replicate hr, List.length_replicate]⟩

theorem videoInv_creation : VideoInv Video.creation := by
  refine ⟨by decide, by decide, by decide, List.length_replicate, List.length_replicate, List.length_replicate,
    fun p hp => ?_, surfaceShape_blankSurface, surfaceShape_blankSurface⟩
  rw [List.eq_of_mem_replicate hp]
  decide

theorem channelInv_creation : ChannelInv Channel.creation :=
  ⟨by decide, by decide⟩

theorem audioInv_creation : AudioInv Audio.creation := by
  refine ⟨channelInv_creation, channelInv_creation, channelInv_creation, by simp [Audio.creation], ?_⟩
  norm_num [UnitSample, Audio.creation]

/-- Settles O17: the reset keeps the scheduler, the units and the memories of creation. -/
theorem resetMeetsInvariants : Obligations.ResetMeetsInvariants := by
  refine ⟨step_creation, fun s hs => ?_⟩
  obtain rfl | rfl : s = State.creation ∨ s = State.reset := by simpa using hs
  all_goals exact ⟨memoryInv_creation, schedulerInv_creation, videoInv_creation, audioInv_creation⟩

end Sys2Proof.Machine
end

section
/-!
PROOFS. The bus cell by cell (R82 to R90, R98, R107): routing, what a read answers, what a write stores and does, and that one
write changes one cell.
-/

namespace Sys2Proof.Machine

open Sys2Proof.Safety

/-! ## Routing (R82) -/

/-- Settles O5: the window's bounds are IO_LO and IO_HI. -/
theorem routingToShadow : Obligations.RoutingToShadow := by
  intro a s
  simp only [isIO, Bool.and_eq_true, bne_iff_ne, decide_eq_true_eq, and_assoc]
  exact Iff.rfl

/-- The bank control byte is in page 0, below every cell that a write must leave alone for the routing to stay (R51, R83). -/
theorem bankCtrlAddr_lt (s : State) : s.params.bankCtrlAddr.toNat < 256 := s.params.bankCtrlAddr.isLt

/-- Routing is the same where the control byte is. -/
theorem isIO_of_bankCtrl_eq {s t : State} (hp : t.params = s.params)
    (h : t.ram.read s.params.bankCtrlAddr.toNat = s.ram.read s.params.bankCtrlAddr.toNat) (a : Addr) :
    isIO a t = isIO a s := by
  simp only [isIO, hp, h]

/-- A write does not change the routing of its own address. -/
theorem isIO_memWrite_same {s : State} (h : MemoryInv s) (a : Addr) (v : Byte) :
    isIO a (memWrite a v s) = isIO a s := by
  cases hio : isIO a s
  case true =>
    rw [isIO_congr (t := s) (by rw [memWrite_ram_field, if_pos hio]) (by simp), hio]
  case false =>
    by_cases hlow : a.toNat < 0xD000
    · exact isIO_below hlow _
    · have hother : s.params.bankCtrlAddr.toNat ≠ a.toNat := by
        have := bankCtrlAddr_lt s
        omega
      have hkept : (memWrite a v s).ram.read s.params.bankCtrlAddr.toNat = s.ram.read s.params.bankCtrlAddr.toNat := by
        rw [memWrite_ram_field, hio]
        exact Memory.read_write_other h.1 hother v
      rw [isIO_of_bankCtrl_eq (by simp) hkept, hio]

/-! ## Reads (R84, R88) -/

/-- The block's read interception declines every address but six (R88). -/
theorem readIntercept_eq_none {a : Addr} (h : a ∉ ([0xD011, 0xD012, 0xD019, 0xDC00, 0xDC01, 0xDC0D] : List Addr))
    (s : State) : readIntercept a s = none := by
  simp only [List.mem_cons, List.not_mem_nil, or_false, not_or] at h
  obtain ⟨h1, h2, h3, h4, h5, h6⟩ := h
  simp only [readIntercept, h1, h2, h3, h4, h5, h6, if_false]

theorem readControl1_eq (s : State) :
    readControl1 s =
      (s.shadow.read 0x011 &&& 0x7F) ||| BitVec.ofNat 8 (((s.line >>> 8) &&& 1) <<< 7) := by
  simp only [readControl1, Nat.shiftRight_eq_div_pow, Nat.and_one_is_mod, Nat.shiftLeft_eq]
  rfl

theorem ofNat_and_low_byte (n : Nat) : BitVec.ofNat 8 (n &&& 0xFF) = BitVec.ofNat 8 n := by
  apply BitVec.eq_of_toNat_eq
  rw [BitVec.toNat_ofNat, BitVec.toNat_ofNat, show (0xFF : Nat) = 2 ^ 8 - 1 by rfl, Nat.and_two_pow_sub_one_eq_mod,
    Nat.mod_mod]

/-- Settles O8: by whether an interception is registered, and whose. -/
theorem readInterceptions : Obligations.ReadInterceptions := by
  intro a s
  refine ⟨memRead_ram, memRead_absent, fun hio hc => ?block, memRead_host⟩
  refine ⟨?control1, ?rasterLine, ?_, ?_, ?_, ?_, fun ha => memRead_declined hio hc (readIntercept_eq_none ha s)⟩
  case control1 =>
    rintro rfl
    rw [← readControl1_eq]
    exact memRead_handled hio hc rfl
  case rasterLine =>
    rintro rfl
    rw [ofNat_and_low_byte]
    exact memRead_handled hio hc rfl
  all_goals
    rintro rfl
    exact memRead_handled hio hc rfl

/-- Settles O6: a write leaves the routing of its address, and what it stored is what a read finds there. -/
theorem readAfterWrite : Obligations.ReadAfterWrite := by
  intro s a v hinv
  have hroute : isIO a (memWrite a v s) = isIO a s := isIO_memWrite_same hinv a v
  have hparams : (memWrite a v s).params = s.params := by simp
  constructor
  case left =>
    intro hio
    rw [memRead_ram (hroute.trans hio), memWrite_ram_field, hio]
    exact Memory.read_write_same hinv.1 a.toNat v
  case right =>
    intro hio
    have hstored : (memWrite a v s).shadow.read (shadowOffset a) = v := by
      rw [memWrite_shadow_field, if_pos hio]
      exact Memory.read_write_same hinv.2 (shadowOffset a) v
    refine ⟨fun hc => ?absent, fun hc ha => ?block, fun hc => ?host⟩ <;> rw [← hparams] at hc
    case absent => rw [memRead_absent (hroute.trans hio) hc, hstored]
    case block => rw [memRead_declined (hroute.trans hio) hc (readIntercept_eq_none ha _), hstored]
    case host => rw [memRead_host (hroute.trans hio) hc, hstored]

/-! ## Writes (R86, R107) -/

/-- Settles O7: one array is written, at one address. -/
theorem writeLeavesOtherCells : Obligations.WriteLeavesOtherCells := by
  intro s a v hinv
  constructor
  case left =>
    intro hio
    rw [memWrite_ram hio]
    exact ⟨fun k hk => Memory.read_write_other hinv.1 hk v, rfl⟩
  case right =>
    intro hio
    rw [memWrite_ram_field, memWrite_shadow_field, if_pos hio, if_pos hio]
    exact ⟨rfl, fun k hk => Memory.read_write_other hinv.2 hk v⟩

/-- A word of two bytes, as R90 writes it. -/
theorem mkAddr_eq (lo hi : Byte) : mkAddr lo hi = lo.setWidth 16 ||| (hi.setWidth 16 <<< 8) := by
  apply BitVec.eq_of_getLsbD_eq
  intro i hi16
  simp only [mkAddr, BitVec.getLsbD_append, BitVec.getLsbD_or, BitVec.getLsbD_setWidth, BitVec.getLsbD_shiftLeft]
  by_cases h : i < 8
  · simp [h, hi16]
  · simp [h, hi16, show i - 8 < 16 by omega, lo.getLsbD_of_ge i (by omega)]

theorem hiByte_shiftLeft (w : Addr) : (hiByte w).setWidth 16 <<< 8 = w &&& 0xFF00 := by
  apply BitVec.eq_of_getLsbD_eq
  intro i hi16
  have hmask : (0xFF00 : Addr).getLsbD i = decide (8 ≤ i) := by
    revert i
    decide
  simp only [hiByte, BitVec.getLsbD_and, BitVec.getLsbD_shiftLeft, hmask, BitVec.getLsbD_setWidth,
    BitVec.getLsbD_ushiftRight]
  by_cases h : i < 8
  · simp [h]
  · simp [h, hi16, show 8 ≤ i by omega, show i - 8 < 8 by omega, show i - 8 < 16 by omega]

theorem loByte_setWidth (w : Addr) : (loByte w).setWidth 16 = w &&& (0x00FF : Addr) := by
  apply BitVec.eq_of_toNat_eq
  have hmask : (0x00FF : Addr).toNat = 2 ^ 8 - 1 := rfl
  rw [BitVec.toNat_setWidth, loByte_toNat, BitVec.toNat_and, hmask, Nat.and_two_pow_sub_one_eq_mod]
  omega

/-- A word with its low byte replaced (R460). -/
theorem mkAddr_hiByte (v : Byte) (w : Addr) : mkAddr v (hiByte w) = (w &&& (0xFF00 : Addr)) ||| v.setWidth 16 := by
  rw [mkAddr_eq, hiByte_shiftLeft, BitVec.or_comm]

/-- A word with its high byte replaced (R460). -/
theorem mkAddr_loByte (v : Byte) (w : Addr) :
    mkAddr (loByte w) v = (w &&& (0x00FF : Addr)) ||| (v.setWidth 16 <<< 8) := by
  rw [mkAddr_eq, loByte_setWidth]

/-- A write of $DC05 in the spec's words (R460). -/
theorem writeTimerHigh_eq (v : Byte) (s : State) :
    let latch : Addr := (s.timerLatch &&& (0x00FF : Addr)) ||| (v.setWidth 16 <<< 8)
    writeTimerHigh v s =
      { s with
        timerLatch := latch
        timerCounter := if (s.shadow.read 0xC0E).getLsbD 0 = false then (latch.toNat : Int) else s.timerCounter } := by
  rw [← mkAddr_loByte]
  cases hrun : (s.shadow.read 0xC0E).getLsbD 0 <;> simp only [writeTimerHigh, hrun] <;> rfl

/-- In the audio unit's registers the block's write interception is the flush (R552). -/
theorem writeIntercept_audio {a : Addr} (hlo : 0xD400 ≤ a.toNat) (hhi : a.toNat ≤ 0xD41F) (v : Byte) (s : State) :
    writeIntercept a v s = audioFlush false s := by
  have hne : ∀ b : Addr, 0xD41F < b.toNat ∨ b.toNat < 0xD400 → a ≠ b := by
    rintro b hb rfl
    omega
  rw [writeIntercept, if_neg (hne _ (by decide)), if_neg (hne _ (by decide)), if_neg (hne _ (by decide)),
    if_neg (hne _ (by decide)), if_neg (hne _ (by decide)), if_pos ⟨hlo, hhi⟩]

/-- Everywhere else but at five addresses it does nothing (R107). -/
theorem writeIntercept_other {a : Addr} (h : a ∉ ([0xD019, 0xDC04, 0xDC05, 0xDC0D, 0xDC0E] : List Addr))
    (haudio : ¬ (0xD400 ≤ a.toNat ∧ a.toNat ≤ 0xD41F)) (v : Byte) (s : State) : writeIntercept a v s = s := by
  simp only [List.mem_cons, List.not_mem_nil, or_false, not_or] at h
  obtain ⟨h1, h2, h3, h4, h5⟩ := h
  simp only [writeIntercept, h1, h2, h3, h4, h5, haudio, if_false]

/-- Settles O9: by whether an interception is registered, and whose. -/
theorem writeInterceptions : Obligations.WriteInterceptions := by
  intro a v s
  refine ⟨fun hio => memWrite_ram hio v, fun hio hc => memWrite_absent hio hc v, fun hio hc => ?block,
    fun hio hc => memWrite_host hio hc v⟩
  rw [memWrite_block hio hc]
  refine ⟨?rasterFlag, ?timerLow, ?timerHigh, ?timerMask, ?timerControl, fun hlo hhi => ?audio, fun ha haudio => ?other⟩
  case timerLow =>
    rintro rfl
    rw [← mkAddr_hiByte]
    rfl
  case timerHigh =>
    rintro rfl
    exact congrArg (storeShadow 0xDC05 v) (writeTimerHigh_eq v s)
  case audio =>
    rw [writeIntercept_audio hlo hhi]
    rfl
  case other =>
    rw [writeIntercept_other ha haudio]
    rfl
  all_goals
    rintro rfl
    rfl

/-! ## The stack and words (R90, R98) -/

theorem stackAddr_eq (sp : Byte) : stackAddr sp = (0x0100 : Addr) ||| sp.setWidth 16 := by
  rw [stackAddr, mkAddr_eq, BitVec.or_comm]
  rfl

/-- Settles O11: the stack's address and the modular steps of S and of the address, as numbers. -/
theorem stackAndWordAccess : Obligations.StackAndWordAccess := by
  refine ⟨fun v s => ?push, fun s => ?pull, fun a s => ?word⟩
  case push =>
    have hdown : s.sp - 1 = BitVec.ofNat 8 (s.sp.toNat + 255) := by bv_omega
    rw [← stackAddr_eq, ← hdown]
    simp [push]
  case pull =>
    have hup : s.sp + 1 = BitVec.ofNat 8 (s.sp.toNat + 1) := by bv_omega
    dsimp only
    rw [← stackAddr_eq, ← hup]
    rfl
  case word =>
    have hnext : a + 1 = BitVec.ofNat 16 (a.toNat + 1) := by bv_omega
    dsimp only
    rw [← hnext, ← mkAddr_eq]
    rfl

end Sys2Proof.Machine
end

section
/-!
PROOFS. The forms of an instruction (R93, R200): which of a few shapes its meaning has, where it stores, and that its parts
look at registers, flags and RAM alone. What an instruction changes, and what it can depend on, follows form by form.
-/

namespace Sys2Proof.Machine

open Sys2Proof.Safety

/-! ## Parts that look at registers, flags and RAM alone -/

/-- `u` with the registers and flags of `s`. -/
def State.withRegisters (u s : State) : State :=
  { u with a := s.a, x := s.x, y := s.y, sp := s.sp, pc := s.pc, flags := s.flags }

/-- The value depends on registers, flags and RAM alone. -/
def ReadsRegisters {α : Type} (g : State → α) : Prop :=
  ∀ s u : State, u.ram = s.ram → g (u.withRegisters s) = g s

/-- The operation depends on registers, flags and RAM alone, and writes registers and flags alone. -/
def RegisterOp (f : State → State) : Prop :=
  ∀ s u : State, u.ram = s.ram → f (u.withRegisters s) = u.withRegisters (f s)

theorem RegisterOp.eq_withRegisters {f : State → State} (hf : RegisterOp f) (s : State) :
    f s = s.withRegisters (f s) :=
  hf s s rfl

theorem addWithCarry_registerOp (m : Byte) : RegisterOp (addWithCarry m) := by
  intro s u _
  have hd : (u.withRegisters s).flags.d = s.flags.d := rfl
  unfold addWithCarry
  rw [hd]
  split <;> rfl

theorem subtractWithBorrow_registerOp (m : Byte) : RegisterOp (subtractWithBorrow m) := by
  intro s u _
  have hd : (u.withRegisters s).flags.d = s.flags.d := rfl
  unfold subtractWithBorrow
  rw [hd]
  split <;> rfl

theorem andRotateRight_registerOp (m : Byte) : RegisterOp (andRotateRight m) := by
  intro s u _
  have hd : (u.withRegisters s).flags.d = s.flags.d := rfl
  unfold andRotateRight
  rw [hd]
  split <;> rfl

theorem read_withRegisters {s u : State} (h : u.ram = s.ram) (k : Nat) :
    (u.withRegisters s).ram.read k = s.ram.read k :=
  congrArg (Memory.read · k) h

theorem pull_withRegisters {s u : State} (h : u.ram = s.ram) :
    pull (u.withRegisters s) = ((pull s).1, u.withRegisters (pull s).2) := by
  rw [pull_eq, pull_eq, read_withRegisters h]
  rfl

theorem setA_pull_registerOp : RegisterOp fun s => setA (pull s).1 (pull s).2 := fun s u h => by
  simp only [pull_withRegisters h]
  rfl

theorem setP_pull_registerOp : RegisterOp fun s => setP (pull s).1 (pull s).2 := fun s u h => by
  simp only [pull_withRegisters h]
  rfl

theorem returnFromSubroutine_registerOp : RegisterOp returnFromSubroutine := fun s u h => by
  simp only [returnFromSubroutine_eq, read_withRegisters h]
  rfl

theorem returnFromInterrupt_registerOp : RegisterOp returnFromInterrupt := fun s u h => by
  simp only [returnFromInterrupt_eq, read_withRegisters h]
  rfl

/-! ## The effective addresses (R141 to R147) -/

theorem zeroPagePointer_congr {s t : State} (h : t.ram = s.ram) (p : Byte) :
    zeroPagePointer p t = zeroPagePointer p s := by
  rw [zeroPagePointer_eq, zeroPagePointer_eq, h]

@[simp] theorem readsRegisters_const {α : Type} (c : α) : ReadsRegisters fun _ => c :=
  fun _ _ _ => rfl

@[simp] theorem readsRegisters_eaZpx (zp : Byte) : ReadsRegisters (eaZpx zp) :=
  fun _ _ _ => rfl

@[simp] theorem readsRegisters_eaZpy (zp : Byte) : ReadsRegisters (eaZpy zp) :=
  fun _ _ _ => rfl

@[simp] theorem readsRegisters_eaAbsx (a : Addr) : ReadsRegisters (eaAbsx a) :=
  fun _ _ _ => rfl

@[simp] theorem readsRegisters_eaAbsy (a : Addr) : ReadsRegisters (eaAbsy a) :=
  fun _ _ _ => rfl

@[simp] theorem readsRegisters_eaIzx (zp : Byte) : ReadsRegisters (eaIzx zp) := by
  intro s u h
  have hptr := zeroPagePointer_congr (s := s) (t := u.withRegisters s) h (zp + s.x)
  exact congrArg (fun a => Ea.mk a false) hptr

@[simp] theorem readsRegisters_eaIzy (zp : Byte) : ReadsRegisters (eaIzy zp) := by
  intro s u h
  have hptr := zeroPagePointer_congr (s := s) (t := u.withRegisters s) h zp
  exact congrArg (fun a => eaIndexed a s.y) hptr

/-! ## The forms -/

/-- The forms a meaning can have. For each: that its parts look at registers, flags and RAM alone, and, against the
instruction `i` it is the meaning of, where it reads and stores, or that its row is one that pushes. -/
inductive Form (i : Instr) : (State → Result) → Prop
  /-- Registers and flags change, or nothing does; what is read is at most the stack. -/
  | registers {n : State → Nat} {f : State → State} (hn : ReadsRegisters n) (hf : RegisterOp f)
      (hstore : ∀ s, storeAddress i s = none) : Form i fun s => complete (n s) (f s)
  | reads {e : State → Ea} {n : Nat} {f : Byte → State → State} (he : ReadsRegisters e) (hf : ∀ v, RegisterOp (f v))
      (hread : ∀ s, readAddresses i s = [(e s).addr]) (hstore : ∀ s, storeAddress i s = none) :
      Form i fun s => readThen (e s) n f s
  | jumps {a : Addr} (hread : ∀ s, readAddresses i s = [a, pointerHigh a]) (hstore : ∀ s, storeAddress i s = none) :
      Form i (execJmpInd a)
  | stores {e : State → Ea} {n : Nat} {v : State → Byte} (he : ReadsRegisters e) (hv : ReadsRegisters v)
      (hstore : ∀ s, storeAddress i s = some (e s).addr) : Form i fun s => storeAt (e s) n (v s) s
  | modifies {e : State → Ea} {n : Nat} {f : Byte → State → Byte × State} {k : Byte → State → State}
      (he : ReadsRegisters e) (hv : ∀ v, ReadsRegisters fun s => (f v s).1) (hf : ∀ v, RegisterOp fun s => (f v s).2)
      (hk : ∀ v, RegisterOp (k v)) (hread : ∀ s, readAddresses i s = [(e s).addr])
      (hstore : ∀ s, storeAddress i s = some (e s).addr) : Form i fun s => modifyAt (e s) n f k s
  | pushes {n : Nat} {v : State → Byte} (hv : ReadsRegisters v) (hpush : opcodeOf i ∈ pushRows)
      (hstore : ∀ s, storeAddress i s = none) : Form i fun s => complete n (push (v s) s)
  | calls {a : Addr} (hpush : opcodeOf i ∈ pushRows) (hstore : ∀ s, storeAddress i s = none) : Form i (execJsrAbs a)
  | breaks (hread : ∀ s, readAddresses i s = [s.params.vecIrq, s.params.vecIrq + 1]) (hpush : opcodeOf i ∈ pushRows)
      (hstore : ∀ s, storeAddress i s = none) : Form i execBrk
  | jams {op : Byte} (hstore : ∀ s, storeAddress i s = none) : Form i (execJam op)
  | illegal {op : Byte} {run : State → Result} (h : Form i run) : Form i (ifInIllegalSet op run)
  | unstable {op : Byte} (hstore : ∀ s, storeAddress i s = none) : Form i (unstableOpcode op)

theorem branchCost_readsRegisters (cond : Flags → Bool) (off : Int) :
    ReadsRegisters fun s =>
      if cond s.flags then (if pagesDiffer s.pc (branchTarget s.pc off) then 4 else 3) else 2 :=
  fun _ _ _ => rfl

/-- A branch changes the PC alone, if anything (R300). -/
theorem branch_form {i : Instr} (cond : Flags → Bool) (off : Int) (hstore : ∀ s, storeAddress i s = none) :
    Form i fun s => branchIf (cond s.flags) off s := by
  have htaken : RegisterOp fun s => if cond s.flags then { s with pc := branchTarget s.pc off } else s := by
    intro s u _
    have hflags : (u.withRegisters s).flags = s.flags := rfl
    dsimp only
    rw [hflags]
    split <;> rfl
  have hcomplete : (fun s => branchIf (cond s.flags) off s) = fun s =>
      complete (if cond s.flags then (if pagesDiffer s.pc (branchTarget s.pc off) then 4 else 3) else 2)
        (if cond s.flags then { s with pc := branchTarget s.pc off } else s) := by
    funext s
    cases hc : cond s.flags <;> simp [branchIf]
  rw [hcomplete]
  exact .registers (branchCost_readsRegisters cond off) htaken hstore

/-- The form of every instruction's meaning, family by family. -/
theorem exec_form (i : Instr) : Form i (exec i) := by
  unfold exec
  cases i with
  -- loads, logic, compares, add and subtract
  | ldaIzx | ldaZp | ldaAbs | ldaIzy | ldaZpx | ldaAbsy | ldaAbsx | andIzx | andZp | andAbs | andIzy | andZpx
    | andAbsy | andAbsx | oraIzx | oraZp | oraAbs | oraIzy | oraZpx | oraAbsy | oraAbsx | eorIzx | eorZp
    | eorAbs | eorIzy | eorZpx | eorAbsy | eorAbsx | ldxZp | ldxAbs | ldxZpy | ldxAbsy | ldyZp | ldyAbs | ldyZpx
    | ldyAbsx | bitZp | bitAbs | cmpIzx | cmpZp | cmpAbs | cmpIzy | cmpZpx | cmpAbsy | cmpAbsx | cpxZp | cpxAbs
    | cpyZp | cpyAbs =>
    exact .reads (by simp) (fun _ _ _ _ => rfl) (fun _ => rfl) (fun _ => rfl)
  | adcIzx | adcZp | adcAbs | adcIzy | adcZpx | adcAbsy | adcAbsx =>
    exact .reads (by simp) addWithCarry_registerOp (fun _ => rfl) (fun _ => rfl)
  | sbcIzx | sbcZp | sbcAbs | sbcIzy | sbcZpx | sbcAbsy | sbcAbsx =>
    exact .reads (by simp) subtractWithBorrow_registerOp (fun _ => rfl) (fun _ => rfl)
  | ldaImm | andImm | oraImm | eorImm | txa | tya | ldxImm | tax | tsx | inx | dex | ldyImm | tay | iny | dey
    | cmpImm | cpxImm | cpyImm | aslAcc | lsrAcc | rolAcc | rorAcc | jmpAbs | txs | clc | sec | cli | sei | cld
    | sed | clv | nop =>
    exact .registers (fun _ _ _ => rfl) (fun _ _ _ => rfl) (fun _ => rfl)
  | adcImm =>
    exact .registers (fun _ _ _ => rfl) (addWithCarry_registerOp _) (fun _ => rfl)
  | sbcImm =>
    exact .registers (fun _ _ _ => rfl) (subtractWithBorrow_registerOp _) (fun _ => rfl)
  -- stores, counts and shifts
  | staIzx | staZp | staAbs | staIzy | staZpx | staAbsy | staAbsx | stxZp | stxAbs | stxZpy | styZp | styAbs
    | styZpx =>
    exact .stores (by simp) (fun _ _ _ => rfl) (fun _ => rfl)
  | incZp | incAbs | incZpx | incAbsx | decZp | decAbs | decZpx | decAbsx | aslZp | aslAbs | aslZpx | aslAbsx
    | lsrZp | lsrAbs | lsrZpx | lsrAbsx | rolZp | rolAbs | rolZpx | rolAbsx | rorZp | rorAbs | rorZpx | rorAbsx =>
    exact .modifies (by simp) (fun _ _ _ _ => rfl) (fun _ _ _ _ => rfl) (fun _ _ _ _ => rfl) (fun _ => rfl)
      (fun _ => rfl)
  -- branches, jumps and the stack
  | bpl => exact branch_form (fun f => !f.n) _ fun _ => rfl
  | bmi => exact branch_form (fun f => f.n) _ fun _ => rfl
  | bvc => exact branch_form (fun f => !f.v) _ fun _ => rfl
  | bvs => exact branch_form (fun f => f.v) _ fun _ => rfl
  | bcc => exact branch_form (fun f => !f.c) _ fun _ => rfl
  | bcs => exact branch_form (fun f => f.c) _ fun _ => rfl
  | bne => exact branch_form (fun f => !f.z) _ fun _ => rfl
  | beq => exact branch_form (fun f => f.z) _ fun _ => rfl
  | jmpInd => exact .jumps (fun _ => rfl) (fun _ => rfl)
  | jsrAbs => exact .calls (List.contains_iff_mem.1 rfl) (fun _ => rfl)
  | rts => exact .registers (readsRegisters_const 6) returnFromSubroutine_registerOp (fun _ => rfl)
  | rti => exact .registers (readsRegisters_const 6) returnFromInterrupt_registerOp (fun _ => rfl)
  | brk => exact .breaks (fun _ => rfl) (List.contains_iff_mem.1 rfl) (fun _ => rfl)
  | pha | php => exact .pushes (fun _ _ _ => rfl) (List.contains_iff_mem.1 rfl) (fun _ => rfl)
  | pla => exact .registers (readsRegisters_const 4) setA_pull_registerOp (fun _ => rfl)
  | plp => exact .registers (readsRegisters_const 4) setP_pull_registerOp (fun _ => rfl)
  -- the illegal opcodes
  | sloIzx | sloZp | sloAbs | sloIzy | sloZpx | sloAbsy | sloAbsx | rlaIzx | rlaZp | rlaAbs | rlaIzy | rlaZpx
    | rlaAbsy | rlaAbsx | sreIzx | sreZp | sreAbs | sreIzy | sreZpx | sreAbsy | sreAbsx | dcpIzx | dcpZp | dcpAbs
    | dcpIzy | dcpZpx | dcpAbsy | dcpAbsx =>
    exact .illegal (.modifies (by simp) (fun _ _ _ _ => rfl) (fun _ _ _ _ => rfl) (fun _ _ _ _ => rfl)
      (fun _ => rfl) (fun _ => rfl))
  | rraIzx | rraZp | rraAbs | rraIzy | rraZpx | rraAbsy | rraAbsx =>
    exact .illegal (.modifies (by simp) (fun _ _ _ _ => rfl) (fun _ _ _ _ => rfl) addWithCarry_registerOp
      (fun _ => rfl) (fun _ => rfl))
  | iscIzx | iscZp | iscAbs | iscIzy | iscZpx | iscAbsy | iscAbsx =>
    exact .illegal (.modifies (by simp) (fun _ _ _ _ => rfl) (fun _ _ _ _ => rfl) subtractWithBorrow_registerOp
      (fun _ => rfl) (fun _ => rfl))
  | saxIzx | saxZp | saxAbs | saxZpy =>
    exact .illegal (.stores (by simp) (fun _ _ _ => rfl) (fun _ => rfl))
  | laxIzx | laxZp | laxAbs | laxIzy | laxZpy | laxAbsy =>
    exact .illegal (.reads (by simp) (fun _ _ _ _ => rfl) (fun _ => rfl) (fun _ => rfl))
  | ancImm | alrImm | sbxImm | nopZp | nopZpx | nopImp | nopImm | nopAbs | nopAbsx =>
    exact .illegal (.registers (fun _ _ _ => rfl) (fun _ _ _ => rfl) (fun _ => rfl))
  | arrImm =>
    exact .illegal (.registers (fun _ _ _ => rfl) (andRotateRight_registerOp _) (fun _ => rfl))
  | usbcImm =>
    exact .illegal (.registers (fun _ _ _ => rfl) (subtractWithBorrow_registerOp _) (fun _ => rfl))
  | aneImm | lxaImm | shaIzy | shaAbsy | shxAbsy | shyAbsx | tasAbsy | lasAbsy =>
    exact .unstable (fun _ => rfl)
  | jam => exact .jams (fun _ => rfl)

end Sys2Proof.Machine
end

section
/-!
PROOFS. The video and audio units do not feed back into the block (R111): every operation, run from a state with other units,
does the same but for the units.
-/

namespace Sys2Proof.Machine

open Sys2Proof.Safety

/-- `s` with other video and audio units. -/
def State.withUnits (v : Video) (au : Audio) (s : State) : State := { s with video := v, audio := au }

/-- Every field after `withUnits`. -/
@[simp] theorem withUnits_fields (v : Video) (au : Audio) (s : State) :
    (s.withUnits v au).a = s.a ∧ (s.withUnits v au).x = s.x ∧ (s.withUnits v au).y = s.y ∧
    (s.withUnits v au).sp = s.sp ∧ (s.withUnits v au).pc = s.pc ∧ (s.withUnits v au).flags = s.flags ∧
    (s.withUnits v au).cycles = s.cycles ∧ (s.withUnits v au).mode = s.mode ∧
    (s.withUnits v au).resetPending = s.resetPending ∧ (s.withUnits v au).nmiPending = s.nmiPending ∧
    (s.withUnits v au).irqPending = s.irqPending ∧ (s.withUnits v au).ram = s.ram ∧
    (s.withUnits v au).shadow = s.shadow ∧ (s.withUnits v au).line = s.line ∧
    (s.withUnits v au).lineTarget = s.lineTarget ∧ (s.withUnits v au).rasterLatched = s.rasterLatched ∧
    (s.withUnits v au).timerLatched = s.timerLatched ∧ (s.withUnits v au).timerLatch = s.timerLatch ∧
    (s.withUnits v au).timerCounter = s.timerCounter ∧ (s.withUnits v au).icrMask = s.icrMask ∧
    (s.withUnits v au).video = v ∧ (s.withUnits v au).audio = au ∧ (s.withUnits v au).phase = s.phase ∧
    (s.withUnits v au).frameRequests = s.frameRequests ∧ (s.withUnits v au).hostActions = s.hostActions ∧
    (s.withUnits v au).events = s.events ∧ (s.withUnits v au).draws = s.draws ∧ (s.withUnits v au).params = s.params := by
  and_intros <;> rfl

/-- The function does the same from a state with other units, and leaves them as they are. -/
def CommutesWithUnits (f : State → State) : Prop := ∀ v au s, f (s.withUnits v au) = (f s).withUnits v au

/-- Whatever the units, the function does the same but for the units. -/
def UnitBlind (f : State → State) : Prop := ∀ v au s, ∃ v' au', f (s.withUnits v au) = (f s).withUnits v' au'

/-- Where the step leads to a state, it leads from other units to the same state but for the units. -/
def UnitBlindStep (run : State → Result) : Prop :=
  ∀ s t v au, run s = .next t → ∃ v' au', run (s.withUnits v au) = .next (t.withUnits v' au')

theorem CommutesWithUnits.unitBlind {f : State → State} (h : CommutesWithUnits f) : UnitBlind f :=
  fun v au s => ⟨v, au, h v au s⟩

theorem CommutesWithUnits.comp {f g : State → State} (hg : CommutesWithUnits g) (hf : CommutesWithUnits f) :
    CommutesWithUnits fun s => g (f s) :=
  fun v au s => (congrArg g (hf v au s)).trans (hg v au (f s))

theorem UnitBlind.comp {f g : State → State} (hg : UnitBlind g) (hf : UnitBlind f) : UnitBlind fun s => g (f s) := by
  intro v au s
  obtain ⟨v', au', hf⟩ := hf v au s
  obtain ⟨v'', au'', hg⟩ := hg v' au' (f s)
  exact ⟨v'', au'', (congrArg g hf).trans hg⟩

/-- A step that always leads to a state. -/
theorem UnitBlind.next {f : State → State} (h : UnitBlind f) : UnitBlindStep fun s => .next (f s) := by
  rintro s _ v au ⟨⟩
  obtain ⟨v', au', h⟩ := h v au s
  exact ⟨v', au', congrArg _ h⟩

theorem UnitBlindStep.comp {run : State → Result} {f : State → State} (hrun : UnitBlindStep run) (hf : UnitBlind f) :
    UnitBlindStep fun s => run (f s) := by
  intro s t v au h
  obtain ⟨v', au', hf⟩ := hf v au s
  obtain ⟨v'', au'', hrun⟩ := hrun _ t v' au' h
  exact ⟨v'', au'', (congrArg run hf).trans hrun⟩

/-- A step that chooses between two by what is not of the units. -/
theorem UnitBlindStep.ite {c : State → Prop} {hc : ∀ s, Decidable (c s)} {run run' : State → Result}
    (hsame : ∀ s v au, c (s.withUnits v au) ↔ c s) (h : UnitBlindStep run) (h' : UnitBlindStep run') :
    UnitBlindStep fun s => if c s then run s else run' s := by
  intro s t v au hstep
  dsimp only at hstep ⊢
  by_cases hs : c s
  · rw [if_pos hs] at hstep
    rw [if_pos ((hsame s v au).2 hs)]
    exact h s t v au hstep
  · rw [if_neg hs] at hstep
    rw [if_neg (mt (hsame s v au).1 hs)]
    exact h' s t v au hstep

/-! ## The bus and the stack -/

/-- A read gives the same byte and does the same to the rest of the block. -/
@[simp] theorem memRead_withUnits (a : Addr) (v : Video) (au : Audio) (s : State) :
    memRead a (s.withUnits v au) = ((memRead a s).1, (memRead a s).2.withUnits v au) := by
  have hio : isIO a (s.withUnits v au) = isIO a s := rfl
  cases h : isIO a s
  case false => rw [memRead_ram h, memRead_ram (hio.trans h)]; rfl
  case true =>
    cases hc : s.params.readCallback
    case absent => rw [memRead_absent h hc, memRead_absent (hio.trans h) hc]; rfl
    case host => rw [memRead_host h hc, memRead_host (hio.trans h) hc]; rfl
    case block =>
      have hsame : readIntercept a (s.withUnits v au) =
          (readIntercept a s).map fun r => (r.1, r.2.withUnits v au) := by
        unfold readIntercept
        split_ifs <;> rfl
      cases hr : readIntercept a s with
      | none =>
        rw [memRead_declined h hc hr, memRead_declined (hio.trans h) hc (by rw [hsame, hr]; rfl)]
        rfl
      | some r => rw [memRead_handled h hc hr, memRead_handled (hio.trans h) hc (by rw [hsame, hr]; rfl)]

/-- A write does the same to the rest of the block; the audio flush it may make is the unit's own. -/
theorem memWrite_unitBlind (a : Addr) (w : Byte) : UnitBlind (memWrite a w) := by
  intro v au s
  have hio : isIO a (s.withUnits v au) = isIO a s := rfl
  cases h : isIO a s
  case false => exact ⟨v, au, by rw [memWrite_ram h, memWrite_ram (hio.trans h)]; rfl⟩
  case true =>
    cases hc : s.params.writeCallback
    case absent => exact ⟨v, au, by rw [memWrite_absent h hc, memWrite_absent (hio.trans h) hc]; rfl⟩
    case host => exact ⟨v, au, by rw [memWrite_host h hc, memWrite_host (hio.trans h) hc]; rfl⟩
    case block =>
      refine ⟨v, (writeIntercept a w (s.withUnits v au)).audio, ?_⟩
      rw [memWrite_block h hc, memWrite_block (hio.trans h) hc]
      unfold writeIntercept
      split_ifs <;> rfl

@[simp] theorem memRead16_withUnits (a : Addr) (v : Video) (au : Audio) (s : State) :
    memRead16 a (s.withUnits v au) = ((memRead16 a s).1, (memRead16 a s).2.withUnits v au) := by
  simp [memRead16]

@[simp] theorem fetch_withUnits (v : Video) (au : Audio) (s : State) :
    fetch (s.withUnits v au) = ((fetch s).1, (fetch s).2.withUnits v au) := by
  simp [fetch]
  rfl

theorem push_commutesWithUnits (b : Byte) : CommutesWithUnits (push b) := fun v au s => by
  rw [push_eq, push_eq]
  rfl

theorem pushAddr_commutesWithUnits (a : Addr) : CommutesWithUnits (pushAddr a) := fun v au s => by
  rw [pushAddr_eq, pushAddr_eq]
  rfl

theorem takeInterrupt_commutesWithUnits (vec ret : Addr) (p : Byte) (ev : Addr → Byte → Event) (cost : Nat) :
    CommutesWithUnits (takeInterrupt vec ret p ev cost) := by
  intro v au s
  have hpushed : setI (push p (pushAddr ret (s.withUnits v au))) =
      (setI (push p (pushAddr ret s))).withUnits v au := by
    rw [pushAddr_commutesWithUnits, push_commutesWithUnits]
    rfl
  simp only [takeInterrupt, hpushed, memRead16_withUnits]
  rfl

theorem doReset_commutesWithUnits : CommutesWithUnits doReset := by
  have hclear : CommutesWithUnits fun s =>
      setI { s with resetPending := false, nmiPending := false, irqPending := false } := fun _ _ _ => rfl
  have hvector : CommutesWithUnits fun s =>
      let target := memRead16 s.params.vecReset s
      ({ target.2 with pc := target.1, mode := .running }.record .reset).addCycles target.2.params.resetCycles :=
    fun v au s => by
      simp only [withUnits_fields, memRead16_withUnits]
      rfl
  exact hvector.comp hclear

/-! ## An instruction -/

theorem RegisterOp.commutesWithUnits {f : State → State} (hf : RegisterOp f) : CommutesWithUnits f := by
  intro v au s
  calc f (s.withUnits v au) = f ((s.withUnits v au).withRegisters s) := rfl
    _ = (s.withUnits v au).withRegisters (f s) := hf s _ rfl
    _ = (s.withRegisters (f s)).withUnits v au := rfl
    _ = (f s).withUnits v au := by rw [← hf.eq_withRegisters]

theorem ReadsRegisters.withUnits {α : Type} {g : State → α} (hg : ReadsRegisters g) (v : Video) (au : Audio)
    (s : State) : g (s.withUnits v au) = g s :=
  hg s (s.withUnits v au) rfl

theorem Form.unitBlind {i : Instr} {run : State → Result} (h : Form i run) : UnitBlindStep run := by
  induction h with
  | @registers n f hn hf =>
    have hstep : CommutesWithUnits fun s => (f s).addCycles (n s) := fun v au s => by
      simp only [hn.withUnits, hf.commutesWithUnits v au s]
      rfl
    exact hstep.unitBlind.next
  | @reads e n f he hf =>
    have hstep : CommutesWithUnits fun s =>
        (f (memRead (e s).addr s).1 (memRead (e s).addr s).2).addCycles ((e s).cost n) := fun v au s => by
      simp only [he.withUnits, memRead_withUnits, (hf _).commutesWithUnits v au]
      rfl
    exact hstep.unitBlind.next
  | @jumps a =>
    have hstep : CommutesWithUnits fun s =>
        State.addCycles 5 { (jumpIndirect a s).2 with pc := (jumpIndirect a s).1 } := fun v au s => by
      simp only [jumpIndirect, memRead_withUnits]
      rfl
    exact hstep.unitBlind.next
  | @stores e n b he hv =>
    have hstep : UnitBlind fun s => (memWrite (e s).addr (b s) s).addCycles n := fun v au s => by
      obtain ⟨v', au', h⟩ := memWrite_unitBlind (e s).addr (b s) v au s
      exact ⟨v', au', by simp only [he.withUnits, hv.withUnits, h]; rfl⟩
    exact hstep.next
  | @modifies e n f k he hv hf hk =>
    have hstep : UnitBlind fun s =>
        let old := memRead (e s).addr s
        let new := f old.1 old.2
        (k new.1 (memWrite (e s).addr new.1 new.2)).addCycles n := fun v au s => by
      have hvalue : ∀ b u, (f b (u.withUnits v au)).1 = (f b u).1 := fun b => (hv b).withUnits v au
      have hstate : ∀ b u, (f b (u.withUnits v au)).2 = (f b u).2.withUnits v au := fun b =>
        (hf b).commutesWithUnits v au
      let old := memRead (e s).addr s
      obtain ⟨v', au', h⟩ := memWrite_unitBlind (e s).addr (f old.1 old.2).1 v au (f old.1 old.2).2
      refine ⟨v', au', ?_⟩
      simp only [he.withUnits, memRead_withUnits, hvalue, hstate]
      rw [h, (hk _).commutesWithUnits v' au']
      rfl
    exact hstep.next
  | @pushes n b hv =>
    have hstep : CommutesWithUnits fun s => (push (b s) s).addCycles n := fun v au s => by
      simp only [hv.withUnits, push_commutesWithUnits _ v au]
      rfl
    exact hstep.unitBlind.next
  | @calls a =>
    have hstep : CommutesWithUnits fun s => State.addCycles 6 { pushAddr (s.pc - 1) s with pc := a } :=
      fun v au s => by
        simp only [withUnits_fields, pushAddr_commutesWithUnits _ v au]
        rfl
    exact hstep.unitBlind.next
  | breaks =>
    have hstep : CommutesWithUnits fun s => takeInterrupt s.params.vecIrq (s.pc + 1) (getP s.flags) .brk 7 s :=
      fun v au s => takeInterrupt_commutesWithUnits _ _ _ _ _ v au s
    exact hstep.unitBlind.next
  | jams =>
    have hstep : CommutesWithUnits fun s =>
        ({ s with mode := .jammed }.record (.jam s.pc)).addCycles s.params.jamCycles := fun _ _ _ => rfl
    exact hstep.unitBlind.next
  | @illegal op run _ ih =>
    have hundecoded : CommutesWithUnits (undecoded op) := fun _ _ _ => rfl
    exact .ite (fun _ _ _ => Iff.rfl) ih hundecoded.unitBlind.next
  | @unstable op =>
    have hundecoded : CommutesWithUnits (undecoded op) := fun _ _ _ => rfl
    have hrefused : UnitBlindStep fun _ => .refused (.unstableIllegal op) := fun _ _ _ _ h => by cases h
    exact .ite (fun _ _ _ => Iff.rfl) hrefused hundecoded.unitBlind.next

theorem exec_unitBlind (i : Instr) : UnitBlindStep (exec i) := (exec_form i).unitBlind

/-! ## A step of the CPU (R400) -/

theorem fetchIf_withUnits (wanted : Bool) (v : Video) (au : Audio) (s : State) :
    fetchIf wanted (s.withUnits v au) = ((fetchIf wanted s).1, (fetchIf wanted s).2.withUnits v au) := by
  cases wanted
  case false => rfl
  case true => exact fetch_withUnits v au s

theorem fetchOperands_withUnits (op : Byte) (v : Video) (au : Audio) (s : State) :
    fetchOperands op (s.withUnits v au) = ((fetchOperands op s).1, (fetchOperands op s).2.withUnits v au) := by
  simp only [fetchOperands, withUnits_fields, fetchIf_withUnits]

theorem exec_fetchOperands_unitBlind (op : Byte) :
    UnitBlindStep fun s => exec (fetchOperands op s).1 (fetchOperands op s).2 := by
  intro s t v au h
  simp only [fetchOperands_withUnits]
  exact exec_unitBlind _ _ t v au h

theorem fetchExecute_unitBlind : UnitBlindStep fetchExecute := by
  intro s t v au h
  obtain ⟨v', au', h'⟩ := exec_fetchOperands_unitBlind (fetch s).1 _ t v au h
  refine ⟨v', au', ?_⟩
  simp only [fetchExecute, fetchInstr, fetch_withUnits]
  exact h'

theorem callTrap_commutesWithUnits (a : Addr) : CommutesWithUnits (callTrap a) := by
  intro v au s
  have hview : trapView a (s.withUnits v au) = trapView a s := rfl
  simp only [callTrap, hview, withUnits_fields]
  split <;> rfl

theorem kernalTrap_unitBlind (a : Addr) : UnitBlindStep (kernalTrap a) := by
  have hcalled : CommutesWithUnits fun s =>
      { (callTrap a s).record (.trap a) with pc := (callTrap a s).pc + 1 } := fun v au s => by
    simp only [callTrap_commutesWithUnits a v au s]
    rfl
  have hreturns : UnitBlindStep fun s =>
      exec (fetchOperands s.params.trapReturnOpcode s).1 (fetchOperands s.params.trapReturnOpcode s).2 :=
    fun s t v au h => exec_fetchOperands_unitBlind s.params.trapReturnOpcode s t v au h
  exact hreturns.comp hcalled.unitBlind

theorem trapOrExecute_unitBlind : UnitBlindStep trapOrExecute := by
  have htrap : UnitBlindStep fun s => kernalTrap s.pc s := fun s t v au h => kernalTrap_unitBlind s.pc s t v au h
  exact .ite (fun _ _ _ => Iff.rfl) htrap fetchExecute_unitBlind

theorem enterInterrupt_commutesWithUnits (vec : Params → Addr) (ev : Addr → Byte → Event) :
    CommutesWithUnits fun s => enterInterrupt (vec s.params) ev s :=
  fun v au s => takeInterrupt_commutesWithUnits _ _ _ _ _ v au s

theorem runningStep_unitBlind : UnitBlindStep runningStep := by
  have hirqTaken : CommutesWithUnits fun s => { s with irqPending := false } := fun _ _ _ => rfl
  have hnmiTaken : CommutesWithUnits fun s => { s with nmiPending := false, irqPending := false } := fun _ _ _ => rfl
  have hnmi := (enterInterrupt_commutesWithUnits Params.vecNmi .nmi).unitBlind.comp hnmiTaken.unitBlind
  have hirq := (enterInterrupt_commutesWithUnits Params.vecIrq .irq).unitBlind.comp hirqTaken.unitBlind
  exact .ite (fun _ _ _ => Iff.rfl) hnmi.next
    (.ite (fun _ _ _ => Iff.rfl) hirq.next (trapOrExecute_unitBlind.comp hirqTaken.unitBlind))

theorem cpuStep_unitBlind : UnitBlindStep cpuStep := by
  have hjammed : CommutesWithUnits jammedIdle := fun _ _ _ => rfl
  have hmode : UnitBlindStep fun s => match s.mode with
      | .jammed => .next (jammedIdle s)
      | .running => runningStep s := by
    intro s t v au h
    cases hm : s.mode
    case jammed =>
      simp only [withUnits_fields, hm] at h ⊢
      exact hjammed.unitBlind.next s t v au h
    case running =>
      simp only [withUnits_fields, hm] at h ⊢
      exact runningStep_unitBlind s t v au h
  exact .ite (fun _ _ _ => Iff.rfl) doReset_commutesWithUnits.unitBlind.next hmode

/-! ## A step of the block and the host's actions (R450, R452, R470) -/

theorem timerLine_commutesWithUnits : CommutesWithUnits timerLine := fun v au s => by
  simp only [timerLine, withUnits_fields]
  split <;> rfl

theorem rasterCheck_commutesWithUnits : CommutesWithUnits rasterCheck := fun v au s => by
  simp only [rasterCheck, withUnits_fields]
  split <;> rfl

theorem beginLine_commutesWithUnits (n : Nat) : CommutesWithUnits (beginLine n) := by
  intro v au s
  have hline : ({ s.withUnits v au with line := n } : State) = { s with line := n }.withUnits v au := rfl
  simp only [beginLine, hline, rasterCheck_commutesWithUnits v au, timerLine_commutesWithUnits v au]
  rfl

theorem blockStep_unitBlind : UnitBlindStep blockStep := by
  have hdrive : CommutesWithUnits driveIrqLine := fun _ _ _ => rfl
  have hbegin : UnitBlind beginFrame := fun v au s => ⟨beginFrameVideo v, au, rfl⟩
  have hline : UnitBlind endLine := fun v au s => ⟨videoLine s.params s.ram s.shadow s.line v, au, rfl⟩
  have hend : UnitBlind endFrame := fun v au s =>
    ⟨swapSurfaces v, flushAudio s.params s.shadow s.cycles true au, rfl⟩
  intro s t v au h
  have hphase : (s.withUnits v au).phase = s.phase := rfl
  unfold blockStep at h ⊢
  rw [hphase]
  cases hp : s.phase with
  | idle =>
    rw [hp] at h
    exact UnitBlindStep.ite (c := fun s => s.frameRequests = 0) (fun _ _ _ => Iff.rfl) cpuStep_unitBlind hbegin.next
      s t v au h
  | lineStart n =>
    rw [hp] at h
    exact (beginLine_commutesWithUnits n).unitBlind.next s t v au h
  | cpuLoop =>
    rw [hp] at h
    exact UnitBlindStep.ite (c := fun s => s.cycles < s.lineTarget) (fun _ _ _ => Iff.rfl)
      (cpuStep_unitBlind.comp hdrive.unitBlind) hline.next s t v au h
  | frameEnd =>
    rw [hp] at h
    exact hend.next s t v au h

theorem loadImage_commutesWithUnits (file : Option (List Byte)) : CommutesWithUnits (loadImage file) := by
  intro v au s
  unfold loadImage
  split <;> rfl

theorem applyAction_unitBlind (act : HostAction) : UnitBlind (applyAction act) := by
  intro v au s
  cases act with
  | consume k => exact ⟨v, (consumeSamples k au).2, rfl⟩
  | loadImage file => exact ⟨v, au, loadImage_commutesWithUnits file v au s⟩
  | pause | requestReset | requestNmi | driveIrq | requestFrame => exact ⟨v, au, rfl⟩

theorem takeListed_unitBlind (acts : List HostAction) : UnitBlind (takeListed acts) := by
  induction acts with
  | nil => exact fun v au _ => ⟨v, au, rfl⟩
  | cons act acts ih =>
    cases act
    case pause => exact fun v au _ => ⟨v, au, rfl⟩
    all_goals exact ih.comp (applyAction_unitBlind _)

/-- Settles O47: the host's actions do not see the units, and no action of the block does. -/
theorem unitsDoNotFeedBack : Obligations.UnitsDoNotFeedBack := by
  have htake : UnitBlind takeActions := fun v au s => takeListed_unitBlind s.hostActions v au s
  have hstep : UnitBlindStep step := blockStep_unitBlind.comp htake
  exact fun s t v au h => hstep s t v au h

end Sys2Proof.Machine
end

section
/-!
PROOFS. An instruction as its accesses to the bus (R93): reads at the addresses it reads, writes at the address it stores to or
on the stack, and nothing else that RAM, the shadow or a device could see. Its frame follows from what one access can do.
-/

namespace Sys2Proof.Machine

open Sys2Proof.Safety

/-! ## What an access can change -/

/-- RAM, the I/O shadow, and the devices' state that a write can change; the configuration with them. -/
def devicePart (s : State) : (Memory × Memory × Params) × (Audio × Bool × BitVec 16 × Int × BitVec 5) :=
  ((s.ram, s.shadow, s.params), (s.audio, s.rasterLatched, s.timerLatch, s.timerCounter, s.icrMask))

/-- What a write can change, and the timer flag and the count of draws, which a read can. -/
def busPart (s : State) : ((Memory × Memory × Params) × (Audio × Bool × BitVec 16 × Int × BitVec 5)) × (Bool × Nat) :=
  (devicePart s, (s.timerLatched, s.draws))

theorem RegisterOp.busPart_eq {f : State → State} (hf : RegisterOp f) (s : State) : busPart (f s) = busPart s := by
  rw [hf.eq_withRegisters s]
  rfl

theorem devicePart_memRead (a : Addr) (s : State) : devicePart (memRead a s).2 = devicePart s := by
  simp [devicePart]

/-- All a read can do to the state, by its address: a draw at an input port, the clearing of the timer flag at $DC0D, or one
draw of the host's answer (R84, R466, R468). -/
theorem memRead_state_by_address (a : Addr) (s : State) :
    (memRead a s).2 = s ∨ ((a = 0xDC00 ∨ a = 0xDC01) ∧ (memRead a s).2 = { s with draws := s.draws + 1 }) ∨
      (a = 0xDC0D ∧ (memRead a s).2 = { s with timerLatched := false }) ∨
      (s.params.readCallback = .host ∧
        (memRead a s).2 =
          { s with
            draws := s.draws + 1
            resetPending := s.resetPending || (Config.readCallback s.draws a).reset }) := by
  cases hio : isIO a s
  case false => exact .inl (by rw [memRead_ram hio])
  case true =>
    cases hc : s.params.readCallback
    case absent => exact .inl (by rw [memRead_absent hio hc])
    case host => exact .inr (.inr (.inr ⟨rfl, by rw [memRead_host hio hc]⟩))
    case block =>
      cases hr : readIntercept a s with
      | none => exact .inl (by rw [memRead_declined hio hc hr])
      | some r =>
        rw [memRead_handled hio hc hr]
        unfold readIntercept at hr
        grind

/-- Of the reads only one of $DC0D clears the timer flag (R466). -/
theorem memRead_timerLatched {a : Addr} (h : a ≠ 0xDC0D) (s : State) :
    (memRead a s).2.timerLatched = s.timerLatched := by
  rcases memRead_state_by_address a s with hs | ⟨-, hs⟩ | ⟨ha, -⟩ | ⟨-, hs⟩
  case inr.inr.inl => exact absurd ha h
  all_goals rw [hs]

/-- Only a read of an input port draws, where no interception of the host's own is registered (R468). -/
theorem memRead_draws {a : Addr} {s : State} (hhost : s.params.readCallback ≠ .host) (h2 : a ≠ 0xDC00)
    (h1 : a ≠ 0xDC01) : (memRead a s).2.draws = s.draws := by
  rcases memRead_state_by_address a s with hs | ⟨ha, -⟩ | ⟨-, hs⟩ | ⟨hc, -⟩
  case inr.inl => exact (ha.elim h2 h1).elim
  case inr.inr.inr => exact absurd hc hhost
  all_goals rw [hs]

/-! ## The accesses of an instruction -/

/-- One step of an instruction as RAM, the shadow and the devices see it: none of their business, a MemRead at an address of
`reads`, or a MemWrite at an address in `writes`. -/
inductive BusStep (reads : List Addr) (writes : Addr → Prop) : State → State → Prop
  | silent {s t : State} (h : busPart t = busPart s) : BusStep reads writes s t
  | read {a : Addr} (ha : a ∈ reads) (s : State) : BusStep reads writes s (memRead a s).2
  | write {a : Addr} (ha : writes a) (v : Byte) (s : State) : BusStep reads writes s (memWrite a v s)

/-- A run of such steps. -/
abbrev BusSteps (reads : List Addr) (writes : Addr → Prop) : State → State → Prop :=
  Relation.ReflTransGen (BusStep reads writes)

/-- Where an instruction may write: the address it stores to, or, in a row that pushes, the stack. -/
def MayWrite (i : Instr) (s : State) (a : Addr) : Prop :=
  storeAddress i s = some a ∨ storeAddress i s = none ∧ opcodeOf i ∈ pushRows ∧ ∃ sp, a = stackAddr sp

theorem push_busSteps {reads : List Addr} {writes : Addr → Prop} (h : ∀ sp, writes (stackAddr sp)) (v : Byte) (s : State) :
    BusSteps reads writes s (push v s) :=
  .tail (.single (.write (h s.sp) v s)) (.silent rfl)

theorem pushAddr_busSteps {reads : List Addr} {writes : Addr → Prop} (h : ∀ sp, writes (stackAddr sp)) (a : Addr)
    (s : State) :
    BusSteps reads writes s (pushAddr a s) :=
  (push_busSteps h _ s).trans (push_busSteps h _ _)

/-- An instruction that completes has made its accesses, form by form. -/
theorem Form.busSteps {i : Instr} {run : State → Result} (h : Form i run) {s t : State} (hrun : run s = .next t) :
    BusSteps (readAddresses i s) (MayWrite i s) s t := by
  induction h with
  | registers _ hf =>
    cases hrun
    exact .single (.silent (hf.busPart_eq s))
  | reads _ hf hread =>
    cases hrun
    exact .tail (.single (.read (by simp [hread]) s)) (.silent ((hf _).busPart_eq _))
  | jumps hread =>
    cases hrun
    exact .tail (.tail (.single (.read (by simp [hread]) s)) (.read (by simp [hread]) _)) (.silent rfl)
  | stores _ _ hstore =>
    cases hrun
    exact .tail (.single (.write (.inl (hstore s)) _ s)) (.silent rfl)
  | modifies _ _ hf hk hread hstore =>
    cases hrun
    exact .tail (.tail (.tail (.single (.read (by simp [hread]) s)) (.silent ((hf _).busPart_eq _)))
      (.write (.inl (hstore s)) _ _)) (.silent ((hk _).busPart_eq _))
  | pushes _ hpush hstore =>
    cases hrun
    exact .tail (push_busSteps (fun sp => .inr ⟨hstore s, hpush, sp, rfl⟩) _ s) (.silent rfl)
  | calls hpush hstore =>
    cases hrun
    exact .tail (pushAddr_busSteps (fun sp => .inr ⟨hstore s, hpush, sp, rfl⟩) _ s) (.silent rfl)
  | breaks hread hpush hstore =>
    cases hrun
    have hmay : ∀ sp, MayWrite i s (stackAddr sp) := fun sp => .inr ⟨hstore s, hpush, sp, rfl⟩
    let pushed := push (getP s.flags) (pushAddr (s.pc + 1) s)
    have hpushed : BusSteps (readAddresses i s) (MayWrite i s) s pushed :=
      (pushAddr_busSteps hmay _ s).trans (push_busSteps hmay _ _)
    have hmasked := hpushed.tail (.silent (t := setI pushed) rfl)
    have hlow := hmasked.tail (.read (a := s.params.vecIrq) (by simp [hread]) _)
    have hhigh := hlow.tail (.read (a := s.params.vecIrq + 1) (by simp [hread]) _)
    exact .tail hhigh (.silent rfl)
  | jams =>
    cases hrun
    exact .single (.silent rfl)
  | illegal _ ih =>
    unfold ifInIllegalSet at hrun
    split at hrun
    · exact ih hrun
    · cases hrun
      exact .single (.silent rfl)
  | unstable =>
    unfold unstableOpcode at hrun
    split at hrun
    · cases hrun
    · cases hrun
      exact .single (.silent rfl)

theorem exec_busSteps {i : Instr} {s t : State} (h : exec i s = .next t) :
    BusSteps (readAddresses i s) (MayWrite i s) s t :=
  (exec_form i).busSteps h

/-! ## An instruction that stores nothing (R93, R94) -/

section

variable {reads : List Addr} {writes : Addr → Prop} {s t : State}

theorem BusSteps.timerLatched_eq (h : BusSteps reads writes s t) (hreads : (0xDC0D : Addr) ∉ reads) :
    t.timerLatched = s.timerLatched := by
  induction h with
  | refl => rfl
  | tail _ hstep ih =>
    rw [← ih]
    cases hstep with
    | silent h => exact congrArg (·.2.1) h
    | read ha => exact memRead_timerLatched (by rintro rfl; exact hreads ha) _
    | write => simp

theorem BusSteps.params_eq (h : BusSteps reads writes s t) : t.params = s.params := by
  induction h with
  | refl => rfl
  | tail _ hstep ih =>
    rw [← ih]
    cases hstep with
    | silent h => exact congrArg (·.1.1.2.2) h
    | read => simp
    | write => simp

theorem BusSteps.draws_eq (h : BusSteps reads writes s t) (hhost : NoHostCallback s.params)
    (h2 : (0xDC00 : Addr) ∉ reads) (h1 : (0xDC01 : Addr) ∉ reads) : t.draws = s.draws := by
  induction h with
  | refl => rfl
  | tail hrun hstep ih =>
    obtain ⟨hreadHost, hwriteHost⟩ := BusSteps.params_eq hrun ▸ hhost
    rw [← ih]
    cases hstep with
    | silent h => exact congrArg (·.2.2) h
    | read ha =>
      exact memRead_draws hreadHost (by rintro rfl; exact h2 ha) (by rintro rfl; exact h1 ha)
    | write => exact ((memWrite_resetPending _ _ _).2 hwriteHost).2

theorem BusSteps.devicePart_eq (h : BusSteps reads writes s t) (hwrites : ∀ a, ¬ writes a) :
    devicePart t = devicePart s := by
  induction h with
  | refl => rfl
  | tail _ hstep ih =>
    rw [← ih]
    cases hstep with
    | silent h => exact congrArg (·.1) h
    | read a => exact devicePart_memRead _ _
    | write ha => exact absurd ha (hwrites _)

end

/-- Settles O28: by what each access of the instruction can change. -/
theorem nonStoringFrame : Obligations.NonStoringFrame := by
  intro i s t _ hexec
  have hrun := exec_busSteps hexec
  refine ⟨hrun.timerLatched_eq, hrun.draws_eq, fun hstore hpush => ?_⟩
  have hkept := hrun.devicePart_eq fun a => by simp [MayWrite, hstore, hpush]
  simp only [devicePart, Prod.mk.injEq] at hkept
  obtain ⟨⟨hram, hshadow, -⟩, haudio, hraster, hlatch, hcounter, hmask⟩ := hkept
  exact ⟨fun k => by rw [hram], fun k => by rw [hshadow], haudio, hraster, hlatch, hcounter, hmask⟩

/-! ## An instruction that stores (R86, R93, R107) -/

/-- From `s` to `t` one cell is written at most, the one `a` is routed to, with the device effect of that address. -/
def WritesCellAlone (a : Addr) (s t : State) : Prop :=
  (isIO a s = false →
    (∀ k, k ≠ a.toNat → t.ram.read k = s.ram.read k) ∧ (∀ k, t.shadow.read k = s.shadow.read k) ∧
    t.audio = s.audio ∧ t.rasterLatched = s.rasterLatched ∧ t.timerLatch = s.timerLatch ∧
    t.timerCounter = s.timerCounter ∧ t.icrMask = s.icrMask) ∧
  (isIO a s = true →
    (∀ k, t.ram.read k = s.ram.read k) ∧ (∀ k, k ≠ a.toNat - 0xD000 → t.shadow.read k = s.shadow.read k) ∧
    (¬ (0xD400 ≤ a.toNat ∧ a.toNat ≤ 0xD41F) → t.audio = s.audio) ∧
    (a ≠ 0xD019 → t.rasterLatched = s.rasterLatched) ∧
    (a ≠ 0xDC04 → a ≠ 0xDC05 → t.timerLatch = s.timerLatch) ∧
    (a ≠ 0xDC05 → a ≠ 0xDC0E → t.timerCounter = s.timerCounter) ∧ (a ≠ 0xDC0D → t.icrMask = s.icrMask))

theorem WritesCellAlone.of_devicePart_eq {s t : State} (h : devicePart t = devicePart s) (a : Addr) :
    WritesCellAlone a s t := by
  simp only [devicePart, Prod.mk.injEq] at h
  obtain ⟨⟨hram, hshadow, -⟩, haudio, hraster, hlatch, hcounter, hmask⟩ := h
  simp [WritesCellAlone, hram, hshadow, haudio, hraster, hlatch, hcounter, hmask]

theorem isIO_of_devicePart_eq {s t : State} (h : devicePart t = devicePart s) (a : Addr) : isIO a t = isIO a s := by
  simp only [devicePart, Prod.mk.injEq] at h
  obtain ⟨⟨hram, -, hparams⟩, -⟩ := h
  exact isIO_congr hram (by rw [hparams]) a

theorem memoryInv_of_devicePart_eq {s t : State} (h : devicePart t = devicePart s) (hinv : MemoryInv s) :
    MemoryInv t := by
  simp only [devicePart, Prod.mk.injEq] at h
  obtain ⟨⟨hram, hshadow, -⟩, -⟩ := h
  exact memoryInv_congr hram hshadow hinv

theorem WritesCellAlone.trans {a : Addr} {s t u : State} (h : WritesCellAlone a s t) (h' : WritesCellAlone a t u)
    (hio : isIO a t = isIO a s) : WritesCellAlone a s u := by
  obtain ⟨hram, hio'⟩ := h
  obtain ⟨hram', hio''⟩ := h'
  rw [hio] at hram' hio''
  constructor
  case left =>
    intro hs
    obtain ⟨hcells, hshadow, haudio, hraster, hlatch, hcounter, hmask⟩ := hram hs
    obtain ⟨hcells', hshadow', haudio', hraster', hlatch', hcounter', hmask'⟩ := hram' hs
    exact ⟨fun k hk => (hcells' k hk).trans (hcells k hk), fun k => (hshadow' k).trans (hshadow k),
      haudio'.trans haudio, hraster'.trans hraster, hlatch'.trans hlatch, hcounter'.trans hcounter,
      hmask'.trans hmask⟩
  case right =>
    intro hs
    obtain ⟨hcells, hshadow, haudio, hraster, hlatch, hcounter, hmask⟩ := hio' hs
    obtain ⟨hcells', hshadow', haudio', hraster', hlatch', hcounter', hmask'⟩ := hio'' hs
    exact ⟨fun k => (hcells' k).trans (hcells k), fun k hk => (hshadow' k hk).trans (hshadow k hk),
      fun ha => (haudio' ha).trans (haudio ha), fun ha => (hraster' ha).trans (hraster ha),
      fun ha ha' => (hlatch' ha ha').trans (hlatch ha ha'), fun ha ha' => (hcounter' ha ha').trans (hcounter ha ha'),
      fun ha => (hmask' ha).trans (hmask ha)⟩

/-- What the block's write interception changes, device by device (R107). -/
theorem writeIntercept_devices (a : Addr) (v : Byte) (s : State) :
    let t := writeIntercept a v s
    (¬ (0xD400 ≤ a.toNat ∧ a.toNat ≤ 0xD41F) → t.audio = s.audio) ∧
    (a ≠ 0xD019 → t.rasterLatched = s.rasterLatched) ∧
    (a ≠ 0xDC04 → a ≠ 0xDC05 → t.timerLatch = s.timerLatch) ∧
    (a ≠ 0xDC05 → a ≠ 0xDC0E → t.timerCounter = s.timerCounter) ∧ (a ≠ 0xDC0D → t.icrMask = s.icrMask) := by
  intro t
  refine ⟨fun h => ?_, fun h => ?_, fun h h' => ?_, fun h h' => ?_, fun h => ?_⟩
  all_goals
    simp only [t, writeIntercept, h, if_false]
    split_ifs <;> rfl

theorem memWrite_writesCellAlone {s : State} (h : MemoryInv s) (a : Addr) (v : Byte) :
    WritesCellAlone a s (memWrite a v s) := by
  constructor
  case left =>
    intro hio
    rw [memWrite_ram hio]
    exact ⟨fun k hk => Memory.read_write_other h.1 hk v, fun _ => rfl, rfl, rfl, rfl, rfl, rfl⟩
  case right =>
    intro hio
    refine ⟨fun k => by rw [memWrite_ram_field, if_pos hio],
      fun k hk => by rw [memWrite_shadow_field, if_pos hio]; exact Memory.read_write_other h.2 hk v, ?_⟩
    cases hc : s.params.writeCallback
    case absent =>
      rw [memWrite_absent hio hc]
      simp
    case block =>
      rw [memWrite_block hio hc]
      simpa using writeIntercept_devices a v s
    case host =>
      rw [memWrite_host hio hc]
      simp [hostWriteIntercept]

theorem BusSteps.writesCellAlone {reads : List Addr} {writes : Addr → Prop} {s t : State} {a : Addr}
    (h : BusSteps reads writes s t) (hinv : MemoryInv s) (hwrites : ∀ b, writes b → b = a) :
    WritesCellAlone a s t ∧ isIO a t = isIO a s ∧ MemoryInv t := by
  induction h with
  | refl => exact ⟨.of_devicePart_eq rfl a, rfl, hinv⟩
  | @tail u w _ hstep ih =>
    obtain ⟨hcell, hio, hinvU⟩ := ih
    have hkept (hpart : devicePart w = devicePart u) : WritesCellAlone a s w ∧ isIO a w = isIO a s ∧ MemoryInv w :=
      ⟨hcell.trans (.of_devicePart_eq hpart a) hio, (isIO_of_devicePart_eq hpart a).trans hio,
        memoryInv_of_devicePart_eq hpart hinvU⟩
    cases hstep with
    | silent h => exact hkept (congrArg (·.1) h)
    | read => exact hkept (devicePart_memRead _ _)
    | write ha v =>
      obtain rfl := hwrites _ ha
      exact ⟨hcell.trans (memWrite_writesCellAlone hinvU _ v) hio, (isIO_memWrite_same hinvU _ v).trans hio,
        memoryInv_memWrite hinvU _ v⟩

/-- Settles O29: the one address an access of the instruction can write is the one it stores to. -/
theorem storingFrame : Obligations.StoringFrame := by
  intro i s t a hinv hexec hstore
  have hwrites : ∀ b, MayWrite i s b → b = a := fun b hb => by simpa [MayWrite, hstore, eq_comm] using hb
  exact ((exec_busSteps hexec).writesCellAlone hinv hwrites).1

/-! ## An instruction that pushes (R93, R98, R99) -/

/-- After two pushes every cell but theirs is as it was. -/
theorem read_ram_pushAddr {s : State} (h : MemoryInv s) (a : Addr) {k : Nat} (h0 : k ≠ 256 + s.sp.toNat)
    (h1 : k ≠ 256 + (s.sp - 1).toNat) : (pushAddr a s).ram.read k = s.ram.read k := by
  have hinv := memoryInv_push h (hiByte a)
  rw [push_eq] at hinv
  rw [pushAddr_eq]
  exact (Memory.read_write_other hinv.1 h1 _).trans (Memory.read_write_other h.1 h0 _)

/-- After BRK's three pushes every cell but theirs is as it was. -/
theorem read_ramAfterEntry {s : State} (h : MemoryInv s) (ret : Addr) (p : Byte) {k : Nat}
    (h0 : k ≠ 256 + s.sp.toNat) (h1 : k ≠ 256 + (s.sp - 1).toNat) (h2 : k ≠ 256 + (s.sp - 1 - 1).toNat) :
    (ramAfterEntry ret p s).read k = s.ram.read k := by
  have hinv := memoryInv_pushAddr h ret
  have htwo := read_ram_pushAddr h ret h0 h1
  rw [pushAddr_eq] at hinv htwo
  exact (Memory.read_write_other hinv.1 h2 _).trans htwo

/-- The pushes of an interrupt entry or of BRK do not change the routing: the control byte is below the stack (R51, R98). -/
theorem inRam_ramAfterEntry {s : State} (h : MemoryInv s) (ret : Addr) (p : Byte) {vec : Addr} (hvec : InRam vec s) :
    InRam vec { s with ram := ramAfterEntry ret p s } := by
  have hlow := bankCtrlAddr_lt s
  have hkept := read_ramAfterEntry h ret p (k := s.params.bankCtrlAddr.toNat) (by omega) (by omega) (by omega)
  have hroute := isIO_of_bankCtrl_eq (s := s) (t := { s with ram := ramAfterEntry ret p s }) rfl hkept
  exact ⟨(hroute vec).trans hvec.1, (hroute (vec + 1)).trans hvec.2⟩

/-- RAM after an interrupt entry or BRK, wherever the vector stands. -/
theorem takeInterrupt_ram (vec ret : Addr) (p : Byte) (ev : Addr → Byte → Event) (cost : Nat) (s : State) :
    (takeInterrupt vec ret p ev cost s).ram = ramAfterEntry ret p s := by
  simp [takeInterrupt, push_eq, pushAddr_eq, ramAfterEntry]

/-- Settles O30: by the cells that each of the four writes, the rest of RAM and the devices standing outside them. -/
theorem pushingFrame : Obligations.PushingFrame := by
  intro i s t hinv hexec hi
  obtain ⟨a, rfl⟩ | rfl | rfl | rfl := hi
  case inl =>
    obtain rfl := Host.Outcome.next.inj hexec
    refine ⟨fun k h0 h1 _ => read_ram_pushAddr hinv (s.pc - 1) h0 (h1 (.inl ⟨a, rfl⟩)), ?_⟩
    simp [pushAddr_eq]
  case inr.inl | inr.inr.inl =>
    obtain rfl := Host.Outcome.next.inj hexec
    rw [push_eq]
    exact ⟨fun k h0 _ _ => Memory.read_write_other hinv.1 h0 _, rfl, rfl, rfl, rfl, rfl, rfl, fun _ => ⟨rfl, rfl, rfl⟩⟩
  case inr.inr.inr =>
    obtain rfl := Host.Outcome.next.inj hexec
    refine ⟨fun k h0 h1 h2 => ?cells, ?_⟩
    case cells =>
      have h2' : s.sp - 1 - 1 = s.sp - 2 := by bv_omega
      rw [takeInterrupt_ram]
      exact read_ramAfterEntry hinv _ _ h0 (h1 (.inr rfl)) (h2' ▸ h2 rfl)
    refine ⟨?_, ?_, ?_, ?_, ?_, ?_, fun hvec => ?inRam⟩
    case inRam =>
      rw [takeInterrupt_eq (inRam_ramAfterEntry hinv _ _ (hvec rfl))]
      exact ⟨rfl, rfl, rfl⟩
    all_goals simp [takeInterrupt, push_eq, pushAddr_eq]

end Sys2Proof.Machine
end

section
/-!
PROOFS. The boot step (R96, R470): the loaded image, the patch of page 0, the vector, and nothing else.
-/

namespace Sys2Proof.Machine

open Sys2Proof.Safety

/-- RAM after a bulk load, cell by cell: the bytes from the start up, as far as RAM goes (R96). -/
theorem read_loadBytes {m : Memory} (h : m.wf ramSize = true) (start : Nat) (bytes : List Byte) {k : Nat}
    (hk : k < ramSize) :
    (loadBytes m start bytes).read k = if start ≤ k then bytes.getD (k - start) (m.read k) else m.read k := by
  induction bytes generalizing m start with
  | nil => simp [loadBytes]
  | cons b bytes ih =>
    unfold loadBytes
    split
    case isFalse hstart => rw [if_neg (by omega)]
    case isTrue hstart =>
      rw [ih (Memory.wf_write h hstart), Memory.read_write h]
      by_cases hat : k = start
      · simp [hat]
      · by_cases hbelow : k < start
        · rw [if_neg (by omega), if_neg hat, if_neg (by omega)]
        · obtain ⟨j, hj⟩ : ∃ j, k - start = j + 1 := ⟨k - start - 1, by omega⟩
          rw [if_pos (by omega), if_neg hat, if_pos (by omega), hj, show k - (start + 1) = j by omega,
            List.getD_cons_succ]

/-- Writes made in order leave every cell that none of them names. -/
theorem read_writeAll_other {size : Nat} {ws : List (Nat × Byte)} {m : Memory} (h : m.wf size = true)
    (hws : ∀ w ∈ ws, w.1 < size) {k : Nat} (hk : ∀ w ∈ ws, k ≠ w.1) : (m.writeAll ws).read k = m.read k := by
  induction ws generalizing m with
  | nil => rfl
  | cons w ws ih =>
    have hrest := ih (Memory.wf_write (v := w.2) h (hws w (by simp))) (fun w' hw' => hws w' (by simp [hw']))
      fun w' hw' => hk w' (by simp [hw'])
    exact hrest.trans (Memory.read_write_other h (hk w (by simp)) _)

/-- A patch of page 0 as writes: each in page 0 (R470). -/
theorem lt_of_mem_patch {ws : List (Byte × Byte)} {w : Nat × Byte}
    (hw : w ∈ ws.map fun w => (w.1.toNat, w.2)) : w.1 < 256 := by
  obtain ⟨v, -, rfl⟩ := List.mem_map.1 hw
  exact v.1.isLt

/-- RAM with an image loaded and page 0 patched, before the vector is set (R470). -/
def patchedImage (m : Memory) (load : Addr) (rest : List Byte) : Memory :=
  (loadBytes m load.toNat rest).writeAll
    ((Config.bootPatch load (load.toNat + rest.length)).map fun w => (w.1.toNat, w.2))

theorem wf_patchedImage {m : Memory} (h : m.wf ramSize = true) (load : Addr) (rest : List Byte) :
    (patchedImage m load rest).wf ramSize = true :=
  Memory.wf_writeAll (wf_loadBytes h load.toNat rest) fun _ hw => (lt_of_mem_patch hw).trans (by decide)

/-- Above page 0 the patched image is the loaded one. -/
theorem read_patchedImage {m : Memory} (h : m.wf ramSize = true) (load : Addr) (rest : List Byte) {k : Nat}
    (hlow : 256 ≤ k) (hk : k < ramSize) :
    (patchedImage m load rest).read k =
      if load.toNat ≤ k then rest.getD (k - load.toNat) (m.read k) else m.read k := by
  refine (read_writeAll_other (wf_loadBytes h load.toNat rest)
    (fun _ hw => (lt_of_mem_patch hw).trans (by decide)) fun w hw => ?_).trans (read_loadBytes h load.toNat rest hk)
  have := lt_of_mem_patch hw
  omega

/-- The boot step of a file with a load address: the patched image, the vector, and a reset request (R470). -/
theorem loadImage_eq (b0 b1 : Byte) (rest : List Byte) (s : State) :
    let load := mkAddr b0 b1
    loadImage (some (b0 :: b1 :: rest)) s =
      { s with
        ram := ((patchedImage s.ram load rest).write s.params.vecReset.toNat (loByte (Config.bootEntry load))).write
          (s.params.vecReset + 1).toNat (hiByte (Config.bootEntry load))
        resetPending := true } :=
  rfl

/-- Settles O51: the vector is set last, over the image as loaded and patched. -/
theorem bootImage : Obligations.BootImage := by
  refine ⟨fun s => ⟨rfl, rfl, fun _ => rfl⟩, fun b0 b1 rest s hinv => ?_⟩
  have himage := wf_patchedImage hinv.1 (mkAddr b0 b1) rest
  have hvector : s.params.vecReset.toNat ≠ (s.params.vecReset + 1).toNat := by bv_omega
  have hlow := Memory.wf_write (v := loByte (Config.bootEntry (mkAddr b0 b1))) himage s.params.vecReset.isLt
  dsimp only
  rw [loadImage_eq]
  refine ⟨rfl, ?entryLow, ?entryHigh, fun k hpage hlo hhi hk => ?image, rfl⟩
  case entryLow => exact (Memory.read_write_other hlow hvector _).trans (Memory.read_write_same himage _ _)
  case entryHigh => exact Memory.read_write_same hlow _ _
  case image =>
    calc _ = (patchedImage s.ram (mkAddr b0 b1) rest).read k :=
          (Memory.read_write_other hlow hhi _).trans (Memory.read_write_other himage hlo _)
      _ = _ := read_patchedImage hinv.1 (mkAddr b0 b1) rest hpage hk

end Sys2Proof.Machine
end

section
/-!
PROOFS. The encoding: what a cell of the opcode map makes of an operand is encoded as the cell's opcode and that operand, and
every well-formed instruction is made by the cell of its opcode; so decoding and encoding are inverse.
-/

namespace Sys2Proof.Machine

/-! ## Branch offsets (R148, R154) -/

theorem byteOfOffset_offsetOfByte (b : Byte) : byteOfOffset (offsetOfByte b) = b :=
  BitVec.ofInt_toInt

theorem offsetOfByte_byteOfOffset {off : Int} (h : offsetInRange off = true) :
    offsetOfByte (byteOfOffset off) = off := by
  obtain ⟨hlo, hhi⟩ : -128 ≤ off ∧ off ≤ 127 := by simpa [offsetInRange] using h
  exact BitVec.toInt_ofInt_eq_self (by decide) hlo (Int.lt_add_one_of_le hhi)

/-! ## From the cell to the bytes (R131, R151) -/

/-- What a cell of the opcode map makes of an operand is encoded as the cell's opcode and that operand. -/
def CellEncodes (op : Byte) : Shape → Prop
  | .implied i => encode i = [op]
  | .byte f => ∀ b, encode (f b) = [op, b]
  | .relative f => ∀ off, encode (f off) = [op, byteOfOffset off]
  | .word f => ∀ a, encode (f a) = [op, loByte a, hiByte a]

/-- Every cell of the opcode map, one by one: a cell's opcode is its place in the map. -/
theorem cellEncodes_of_mem_zipIdx : ∀ c ∈ opcodeMap.zipIdx, CellEncodes (BitVec.ofNat 8 c.2) c.1 := by
  unfold opcodeMap
  simp only [List.zipIdx_append, List.forall_mem_append]
  unfold mapRow0 mapRow1 mapRow2 mapRow3 mapRow4 mapRow5 mapRow6 mapRow7 mapRow8 mapRow9 mapRowA mapRowB mapRowC mapRowD
    mapRowE mapRowF
  simp only [List.zipIdx_cons, List.zipIdx_nil, List.forall_mem_cons, List.not_mem_nil, false_implies, implies_true,
    and_true, CellEncodes]
  and_intros <;> intros <;> rfl

theorem cellEncodes_shapeOf (op : Byte) : CellEncodes op (shapeOf op) := by
  have hlen : op.toNat < opcodeMap.length := length_opcodeMap ▸ op.isLt
  have hmem : (shapeOf op, op.toNat) ∈ opcodeMap.zipIdx := by
    rw [shapeOf, List.getD_eq_getElem _ _ hlen]
    exact List.mk_mem_zipIdx_iff_getElem?.2 (List.getElem?_eq_getElem hlen)
  simpa using cellEncodes_of_mem_zipIdx _ hmem

/-- The instruction of an opcode and two more bytes is encoded as the opcode and as many of them as its length takes. -/
theorem encode_decodeBytes (op b1 b2 : Byte) :
    encode (decodeBytes op b1 b2) = op :: [b1, b2].take (opcodeLength op - 1) := by
  have hcell := cellEncodes_shapeOf op
  unfold decodeBytes opcodeLength
  cases hsh : shapeOf op <;> rw [hsh] at hcell
  case implied i => exact hcell
  case byte f => exact hcell b1
  case relative f => exact (hcell (offsetOfByte b1)).trans (by rw [byteOfOffset_offsetOfByte]; rfl)
  case word f => exact (hcell (mkAddr b1 b2)).trans (by rw [loByte_mkAddr, hiByte_mkAddr]; rfl)

theorem opcodeOf_decodeBytes (op b1 b2 : Byte) : opcodeOf (decodeBytes op b1 b2) = op :=
  congrArg (·.headD 0) (encode_decodeBytes op b1 b2)

/-! ## From the instruction to its cell (R151) -/

/-- The instructions that a cell of the opcode map can make, a branch offset being in range. -/
inductive MadeBy : Shape → Instr → Prop
  | implied (i : Instr) : MadeBy (.implied i) i
  | byte (f : Byte → Instr) (b : Byte) : MadeBy (.byte f) (f b)
  | relative (f : Int → Instr) {off : Int} (h : offsetInRange off = true) : MadeBy (.relative f) (f off)
  | word (f : Addr → Instr) (a : Addr) : MadeBy (.word f) (f a)

/-- An opcode that a constructor carries, row by row. -/
theorem of_contains {p : Byte → Prop} {rows : List Byte} {op : Byte} (h : rows.contains op = true)
    (hrows : rows.Forall p) : p op :=
  List.forall_iff_forall_mem.1 hrows op (List.contains_iff_mem.1 h)

/-- Every well-formed instruction is made by the cell of its opcode, format by format (R131). -/
theorem madeBy_shapeOf {i : Instr} (hwf : WellFormed i) : MadeBy (shapeOf (opcodeOf i)) i := by
  cases i <;> simp only [opcodeOf, encode, List.headD_cons]
  case brk | php | aslAcc | clc | plp | rolAcc | sec | rti | pha | lsrAcc | cli | rts | pla | rorAcc | sei | dey | txa
    | tya | txs | tay | tax | clv | tsx | iny | dex | cld | inx | nop | sed =>
    exact .implied _
  case oraIzx | sloIzx | oraZp | aslZp | sloZp | oraImm | oraIzy | sloIzy | oraZpx | aslZpx | sloZpx | andIzx | rlaIzx
    | bitZp | andZp | rolZp | rlaZp | andImm | andIzy | rlaIzy | andZpx | rolZpx | rlaZpx | eorIzx | sreIzx | eorZp
    | lsrZp | sreZp | eorImm | alrImm | eorIzy | sreIzy | eorZpx | lsrZpx | sreZpx | adcIzx | rraIzx | adcZp | rorZp
    | rraZp | adcImm | arrImm | adcIzy | rraIzy | adcZpx | rorZpx | rraZpx | staIzx | saxIzx | styZp | staZp | stxZp
    | saxZp | aneImm | staIzy | shaIzy | styZpx | staZpx | stxZpy | saxZpy | ldyImm | ldaIzx | ldxImm | laxIzx
    | ldyZp | ldaZp | ldxZp | laxZp | ldaImm | lxaImm | ldaIzy | laxIzy | ldyZpx | ldaZpx | ldxZpy | laxZpy | cpyImm
    | cmpIzx | dcpIzx | cpyZp | cmpZp | decZp | dcpZp | cmpImm | sbxImm | cmpIzy | dcpIzy | cmpZpx | decZpx | dcpZpx
    | cpxImm | sbcIzx | iscIzx | cpxZp | sbcZp | incZp | iscZp | sbcImm | usbcImm | sbcIzy | iscIzy | sbcZpx | incZpx
    | iscZpx =>
    exact .byte _ _
  case nopAbs | oraAbs | aslAbs | sloAbs | oraAbsy | sloAbsy | oraAbsx | aslAbsx | sloAbsx | jsrAbs | bitAbs | andAbs
    | rolAbs | rlaAbs | andAbsy | rlaAbsy | andAbsx | rolAbsx | rlaAbsx | jmpAbs | eorAbs | lsrAbs | sreAbs | eorAbsy
    | sreAbsy | eorAbsx | lsrAbsx | sreAbsx | jmpInd | adcAbs | rorAbs | rraAbs | adcAbsy | rraAbsy | adcAbsx
    | rorAbsx | rraAbsx | styAbs | staAbs | stxAbs | saxAbs | staAbsy | tasAbsy | shyAbsx | staAbsx | shxAbsy
    | shaAbsy | ldyAbs | ldaAbs | ldxAbs | laxAbs | ldaAbsy | lasAbsy | ldyAbsx | ldaAbsx | ldxAbsy | laxAbsy | cpyAbs
    | cmpAbs | decAbs | dcpAbs | cmpAbsy | dcpAbsy | cmpAbsx | decAbsx | dcpAbsx | cpxAbs | sbcAbs | incAbs | iscAbs
    | sbcAbsy | iscAbsy | sbcAbsx | incAbsx | iscAbsx =>
    exact .word _ _
  case bpl | bmi | bvc | bvs | bcc | bcs | bne | beq => exact .relative _ hwf
  -- constructors that carry the opcode byte
  case jam | nopImp =>
    apply of_contains hwf
    and_intros <;> exact .implied _
  case nopZp | ancImm | nopZpx | nopImm =>
    apply of_contains hwf
    and_intros <;> exact .byte _ _
  case nopAbsx =>
    apply of_contains hwf
    and_intros <;> exact .word _ _

/-- The decoder's instructions are all the well-formed ones. -/
theorem exists_decodeBytes_eq {i : Instr} (hwf : WellFormed i) : ∃ op b1 b2, decodeBytes op b1 b2 = i := by
  refine ⟨opcodeOf i, ?_⟩
  have hmade := madeBy_shapeOf hwf
  unfold decodeBytes
  cases hsh : shapeOf (opcodeOf i) <;> rw [hsh] at hmade <;> cases hmade
  case implied => exact ⟨0, 0, rfl⟩
  case byte f b => exact ⟨b, 0, rfl⟩
  case relative f off hoff => exact ⟨byteOfOffset off, 0, congrArg f (offsetOfByte_byteOfOffset hoff)⟩
  case word f a => exact ⟨loByte a, hiByte a, congrArg f (mkAddr_bytes a)⟩

/-! ## The decoder (R130, R152) -/

theorem opcodeLength_cases (op : Byte) : opcodeLength op = 1 ∨ opcodeLength op = 2 ∨ opcodeLength op = 3 := by
  unfold opcodeLength
  cases shapeOf op
  case implied => exact .inl rfl
  case byte | relative => exact .inr (.inl rfl)
  case word => exact .inr (.inr rfl)

/-- All that the decoder accepts: as many operand bytes as the opcode's length says, and anything after them. -/
theorem decode_cons_eq_ok_iff {op : Byte} {tail rest : List Byte} {i : Instr} :
    decode (op :: tail) = .ok (i, rest) ↔
      ∃ b1 b2, i = decodeBytes op b1 b2 ∧ tail = [b1, b2].take (opcodeLength op - 1) ++ rest := by
  unfold decodeBytes opcodeLength
  cases hsh : shapeOf op with
  | implied j => simp [decode, hsh, Shape.fill, Shape.length, eq_comm]
  | byte f | relative f =>
    cases tail <;> simp [decode, hsh, Shape.fill, Shape.length, eq_comm]
  | word f =>
    obtain _ | ⟨lo, _ | ⟨hi, tail⟩⟩ := tail <;> simp [decode, hsh, Shape.fill, Shape.length, eq_comm]

/-- An opcode without its operand bytes is refused by name. -/
theorem decode_cons_of_short {op : Byte} {tail : List Byte} (h : tail.length + 1 < opcodeLength op) :
    decode (op :: tail) = .error (.missingOperand op) := by
  unfold opcodeLength at h
  cases hsh : shapeOf op <;> rw [hsh] at h
  case implied => simp [Shape.length] at h
  case byte | relative =>
    obtain rfl : tail = [] := by simpa [Shape.length] using h
    simp [decode, hsh]
  case word =>
    obtain _ | ⟨b, _ | ⟨b', tail⟩⟩ := tail
    · simp [decode, hsh]
    · simp [decode, hsh]
    · simp only [List.length_cons, Shape.length] at h
      omega

/-- The first bytes of a list, at most two, by name. -/
theorem take_getD_pair {tail : List Byte} {k : Nat} (hk : k ≤ 2) (hlen : k ≤ tail.length) :
    [tail.getD 0 0, tail.getD 1 0].take k = tail.take k := by
  obtain _ | _ | _ | k := k
  · rfl
  · obtain _ | ⟨b, tail⟩ := tail
    · simp at hlen
    · rfl
  · obtain _ | ⟨b, _ | ⟨b', tail⟩⟩ := tail
    · simp at hlen
    · simp at hlen
    · rfl
  · omega

/-- An opcode with its operand bytes decodes. -/
theorem decode_cons_of_long {op : Byte} {tail : List Byte} (h : opcodeLength op ≤ tail.length + 1) :
    decode (op :: tail) = .ok (decodeBytes op (tail.getD 0 0) (tail.getD 1 0), tail.drop (opcodeLength op - 1)) := by
  have hcases := opcodeLength_cases op
  refine decode_cons_eq_ok_iff.2 ⟨_, _, rfl, ?_⟩
  rw [take_getD_pair (by omega) (by omega), List.take_append_drop]

/-- Settles O1: the instruction is the decoder's for some bytes, and its encoding is those of them that the decoder takes. -/
theorem decodeOfEncode : Obligations.DecodeOfEncode := by
  intro i rest hwf
  obtain ⟨op, b1, b2, rfl⟩ := exists_decodeBytes_eq hwf
  rw [encode_decodeBytes, List.cons_append]
  exact decode_cons_eq_ok_iff.2 ⟨b1, b2, rfl, rfl⟩

/-- Settles O2: the bytes that the decoder takes are the encoding of the instruction that it makes of them. -/
theorem encodeOfDecode : Obligations.EncodeOfDecode := by
  intro bytes rest i h
  cases bytes with
  | nil => simp [decode] at h
  | cons op tail =>
    obtain ⟨b1, b2, rfl, rfl⟩ := decode_cons_eq_ok_iff.1 h
    exact ⟨by rw [encode_decodeBytes, List.cons_append], wellFormed_decodeBytes op b1 b2⟩

/-- Settles O3: the length is the cell's, and decoding turns on it alone. -/
theorem lengthByOpcode : Obligations.LengthByOpcode :=
  fun op _ => ⟨opcodeLength_cases op, fun h => ⟨_, decode_cons_of_long h, opcodeOf_decodeBytes op _ _⟩,
    decode_cons_of_short⟩

/-- Settles O4: the decoder, run on each word. -/
theorem wordsOfTheOpcodeMap : Obligations.WordsOfTheOpcodeMap := by
  unfold Obligations.WordsOfTheOpcodeMap
  and_intros <;> rfl

end Sys2Proof.Machine
end

section
/-!
PROOFS. The addressing modes (R141 to R148) as numbers: each mode's address, its page crossing, and the targets of JMP (abs)
and of a branch.
-/

namespace Sys2Proof.Machine

theorem pagesDiffer_iff (a b : Addr) : pagesDiffer a b = true ↔ a.toNat / 256 ≠ b.toNat / 256 := by
  rw [pagesDiffer_eq, decide_eq_true_iff]

theorem zeroPage_add_toNat (zp index : Byte) : (zeroPage (zp + index)).toNat = (zp.toNat + index.toNat) % 256 := by
  rw [zeroPage_toNat, BitVec.toNat_add]

/-- The pointer at a zero-page address, its high byte from page 0 too (R144, R145). -/
theorem zeroPagePointer_toNat (p : Byte) (s : State) :
    (zeroPagePointer p s).toNat =
      (memRead (BitVec.ofNat 16 p.toNat) s).1.toNat +
        256 * (memRead (BitVec.ofNat 16 ((p.toNat + 1) % 256)) s).1.toNat := by
  have hnext : (p.toNat + 1) % 256 = (p + 1).toNat := by rw [BitVec.toNat_add]; rfl
  rw [hnext, BitVec.ofNat_toNat, BitVec.ofNat_toNat, zeroPagePointer, mkAddr_toNat, zeroPage, zeroPage]
  omega

theorem eaIndexed_addr_toNat (base : Addr) (index : Byte) :
    (eaIndexed base index).addr.toNat = (base.toNat + index.toNat) % 65536 := by
  have hwide : (widen index).toNat = index.toNat := zeroPage_toNat index
  rw [eaIndexed, BitVec.toNat_add, hwide]

theorem eaIndexed_crossed_iff (base : Addr) (index : Byte) :
    (eaIndexed base index).crossed = true ↔ base.toNat / 256 ≠ (eaIndexed base index).addr.toNat / 256 :=
  pagesDiffer_iff _ _

/-- The page of one address with the place in its page of another. -/
theorem page_or_place (a b : Addr) : (a &&& 0xFF00) ||| (b &&& 0x00FF) = mkAddr (loByte b) (hiByte a) := by
  apply BitVec.eq_of_getLsbD_eq
  intro n hn
  have hmasks : (0xFF00 : Addr).getLsbD n = decide (8 ≤ n) ∧ (0x00FF : Addr).getLsbD n = decide (n < 8) := by
    revert n
    decide
  simp only [mkAddr, hiByte, loByte, BitVec.getLsbD_or, BitVec.getLsbD_and, BitVec.getLsbD_append,
    BitVec.getLsbD_setWidth, BitVec.getLsbD_ushiftRight, hmasks.1, hmasks.2]
  by_cases hlow : n < 8
  · simp [hlow, Nat.not_le.2 hlow]
  · simp [hlow, Nat.not_lt.1 hlow, show n - 8 < 8 by omega]

/-- JMP (abs) takes the high byte of its target from the page of the low one (R146). -/
theorem pointerHigh_eq (a : Addr) : pointerHigh a = (a &&& 0xFF00) ||| ((a + 1) &&& 0x00FF) := by
  rw [page_or_place, loByte, BitVec.setWidth_add _ _ (by decide)]
  rfl

theorem jumpIndirect_toNat (a : Addr) (s : State) :
    let lo := memRead a s
    let hi := memRead (pointerHigh a) lo.2
    (jumpIndirect a s).1.toNat = lo.1.toNat + 256 * hi.1.toNat := by
  dsimp only [jumpIndirect]
  rw [mkAddr_toNat]
  omega

theorem offsetOfByte_eq (b : Byte) :
    offsetOfByte b = if 128 ≤ b.toNat then (b.toNat : Int) - 256 else b.toNat := by
  rw [offsetOfByte, BitVec.toInt_eq_toNat_cond]
  split <;> split <;> omega

theorem branchTarget_toNat (next : Addr) (off : Int) :
    ((branchTarget next off).toNat : Int) = (next.toNat + off) % 65536 := by
  rw [branchTarget_eq, BitVec.toNat_ofInt]
  exact Int.toNat_of_nonneg (Int.emod_nonneg _ (by decide))

/-- Settles O12: mode by mode. -/
theorem effectiveAddresses : Obligations.EffectiveAddresses := by
  intro zp a s off
  dsimp only
  refine ⟨⟨zeroPage_toNat zp, rfl⟩, ⟨zeroPage_add_toNat zp s.x, rfl⟩, ⟨zeroPage_add_toNat zp s.y, rfl⟩, ⟨rfl, rfl⟩,
    ⟨?izx, rfl⟩, ⟨?izy, ?izyCrossed⟩, ⟨eaIndexed_addr_toNat a s.x, eaIndexed_crossed_iff a s.x⟩,
    ⟨eaIndexed_addr_toNat a s.y, eaIndexed_crossed_iff a s.y⟩, ?jump,
    offsetOfByte_eq zp, branchTarget_toNat a off, pagesDiffer_iff a _⟩
  case izx => exact BitVec.toNat_add zp s.x ▸ zeroPagePointer_toNat (zp + s.x) s
  case izy => exact zeroPagePointer_toNat zp s ▸ eaIndexed_addr_toNat (zeroPagePointer zp s) s.y
  case izyCrossed => exact zeroPagePointer_toNat zp s ▸ eaIndexed_crossed_iff (zeroPagePointer zp s) s.y
  case jump => exact pointerHigh_eq a ▸ ⟨jumpIndirect_toNat a s, rfl⟩

end Sys2Proof.Machine
end

section
/-!
PROOFS. From an instruction's meaning to what the statements say it does: a meaning of one of the shapes of R200 (complete,
read, store) is that opcode's exact next state. With it the loads, stores and transfers, the counts in X and Y, and the stack
and flag instructions (R201 to R216, R266 to R269, R314 to R321).
-/

namespace Sys2Proof.Machine

open Sys2Proof.Safety

/-! ## The shapes of a meaning as next states (R93, R200) -/

theorem does_of_complete {i : Instr} {op : Byte} {n : Nat} {s : State} (t : State) (hop : opcodeOf i = op)
    (hexec : exec i s = complete n t) (hcycles : t.cycles = s.cycles) :
    Does i op s { t with cycles := s.cycles + n } :=
  ⟨hop, hexec.trans (hcycles ▸ rfl)⟩

theorem reads_of_readThen {i : Instr} {op : Byte} {e : Ea} {n cost : Nat} {f : Byte → State → State} {s : State}
    (hf : ∀ v u, (f v u).cycles = u.cycles) (hop : opcodeOf i = op) (hexec : exec i s = readThen e n f s)
    (hcost : e.cost n = cost) : Reads i op e cost f s := by
  subst hcost
  obtain ⟨-, -, -, -, -, -, hread, -⟩ := memRead_frame e.addr s
  exact does_of_complete _ hop hexec ((hf _ _).trans hread)

theorem writes_of_storeAt {i : Instr} {op : Byte} {e : Ea} {cost : Nat} {v : Byte} {s : State} (hop : opcodeOf i = op)
    (hexec : exec i s = storeAt e cost v s) : Writes i op e cost v s := by
  obtain ⟨-, -, -, -, -, -, hwrite, -⟩ := memWrite_frame e.addr v s
  exact does_of_complete _ hop hexec hwrite

/-- The eight modes of R254 at once, from the opcodes and the meanings. -/
theorem readsInEightModes_of_readThen {imm zp zpx izx izy : Byte → Instr} {abs absx absy : Addr → Instr}
    {oImm oZp oZpx oAbs oAbsx oAbsy oIzx oIzy : Byte} {f : Byte → State → State} {s : State} {b : Byte} {a : Addr}
    (hf : ∀ v u, (f v u).cycles = u.cycles)
    (hops : opcodeOf (imm b) = oImm ∧ opcodeOf (zp b) = oZp ∧ opcodeOf (zpx b) = oZpx ∧ opcodeOf (abs a) = oAbs ∧
      opcodeOf (absx a) = oAbsx ∧ opcodeOf (absy a) = oAbsy ∧ opcodeOf (izx b) = oIzx ∧ opcodeOf (izy b) = oIzy)
    (hexec : exec (imm b) s = complete 2 (f b s) ∧ exec (zp b) s = readThen (eaZp b) 3 f s ∧
      exec (zpx b) s = readThen (eaZpx b s) 4 f s ∧ exec (abs a) s = readThen (eaAbs a) 4 f s ∧
      exec (absx a) s = readThen (eaAbsx a s) 4 f s ∧ exec (absy a) s = readThen (eaAbsy a s) 4 f s ∧
      exec (izx b) s = readThen (eaIzx b s) 6 f s ∧ exec (izy b) s = readThen (eaIzy b s) 5 f s) :
    ReadsInEightModes imm zp zpx abs absx absy izx izy oImm oZp oZpx oAbs oAbsx oAbsy oIzx oIzy f s b a := by
  obtain ⟨oi, oz, ozx, oa, oax, oay, oix, oiy⟩ := hops
  obtain ⟨ei, ez, ezx, ea, eax, eay, eix, eiy⟩ := hexec
  exact ⟨does_of_complete _ oi ei (hf b s), reads_of_readThen hf oz ez rfl, reads_of_readThen hf ozx ezx rfl,
    reads_of_readThen hf oa ea rfl, reads_of_readThen hf oax eax rfl, reads_of_readThen hf oay eay rfl,
    reads_of_readThen hf oix eix rfl, reads_of_readThen hf oiy eiy rfl⟩

/-! ## Loads and stores (R201 to R206) -/

/-- Settles O31: each mode's meaning is a read or a store of its shape, and a load leaves the cycle count to the shape. -/
theorem loadsAndStores : Obligations.LoadsAndStores := by
  intro s b a toA toX toY
  have hA : ∀ v u, (toA v u).cycles = u.cycles := fun _ _ => rfl
  have hX : ∀ v u, (toX v u).cycles = u.cycles := fun _ _ => rfl
  have hY : ∀ v u, (toY v u).cycles = u.cycles := fun _ _ => rfl
  refine ⟨?lda, ?ldx, ?ldy, ?sta, ?stx, ?sty⟩
  case lda => exact readsInEightModes_of_readThen hA (by and_intros <;> rfl) (by and_intros <;> rfl)
  case ldx =>
    refine ⟨does_of_complete (toX b s) rfl rfl rfl, ?_, ?_, ?_, ?_⟩ <;> exact reads_of_readThen hX rfl rfl rfl
  case ldy =>
    refine ⟨does_of_complete (toY b s) rfl rfl rfl, ?_, ?_, ?_, ?_⟩ <;> exact reads_of_readThen hY rfl rfl rfl
  case sta => refine ⟨?_, ?_, ?_, ?_, ?_, ?_, ?_⟩ <;> exact writes_of_storeAt rfl rfl
  case stx => refine ⟨?_, ?_, ?_⟩ <;> exact writes_of_storeAt rfl rfl
  case sty => refine ⟨?_, ?_, ?_⟩ <;> exact writes_of_storeAt rfl rfl

/-! ## Transfers and counts (R207 to R212, R266 to R269) -/

/-- Settles O32: each instruction completes in 2 cycles with one register operation, which leaves the cycle count alone. -/
theorem transfersAndCounts : Obligations.TransfersAndCounts := fun s =>
  ⟨does_of_complete (setX s.a s) rfl rfl rfl, does_of_complete (setY s.a s) rfl rfl rfl,
    does_of_complete (setA s.x s) rfl rfl rfl, does_of_complete (setA s.y s) rfl rfl rfl,
    does_of_complete (setX s.sp s) rfl rfl rfl, does_of_complete { s with sp := s.x } rfl rfl rfl,
    does_of_complete (setX (s.x + 1) s) rfl rfl rfl, does_of_complete (setY (s.y + 1) s) rfl rfl rfl,
    does_of_complete (setX (s.x - 1) s) rfl rfl rfl, does_of_complete (setY (s.y - 1) s) rfl rfl rfl⟩

/-! ## Stack and flag instructions (R213 to R216, R314 to R321) -/

theorem push_cycles (v : Byte) (s : State) : (push v s).cycles = s.cycles := by
  rw [push_eq]

theorem pull_cycles (s : State) : (pull s).2.cycles = s.cycles := by
  rw [pull_eq]

theorem setA_pull (s : State) :
    setA (pull s).1 (pull s).2 = { (pull s).2 with a := (pull s).1, flags := zn (pull s).1 s.flags } := by
  rw [pull_eq]
  rfl

/-- Settles O38: a push and a pull leave the cycle count alone, and a pull leaves the flags for SetZN. -/
theorem stackAndFlagInstructions : Obligations.StackAndFlagInstructions := by
  intro s flagged
  have hflagged {i : Instr} {op : Byte} (f : Flags) (hop : opcodeOf i = op)
      (hexec : exec i s = complete 2 { s with flags := f }) : Does i op s (flagged f) :=
    does_of_complete { s with flags := f } hop hexec rfl
  refine ⟨?pha, ?php, ?pla, ?plp, ?flags⟩
  case pha => exact does_of_complete (push s.a s) rfl rfl (push_cycles s.a s)
  case php => exact does_of_complete (push (getP s.flags) s) rfl rfl (push_cycles _ s)
  case pla =>
    have hpla : exec .pla s = complete 4 (setA (pull s).1 (pull s).2) := rfl
    rw [setA_pull] at hpla
    exact does_of_complete _ rfl hpla (pull_cycles s)
  case plp => exact does_of_complete (setP (pull s).1 (pull s).2) rfl rfl (pull_cycles s)
  case flags => refine ⟨?_, ?_, ?_, ?_, ?_, ?_, ?_, ?_⟩ <;> exact hflagged _ rfl rfl

end Sys2Proof.Machine
end

section
/-!
PROOFS. What addition and subtraction mean (R250 to R253, R260, R275): signed overflow as a comparison of signs, the masks of
the decimal rules as digits, and those rules on decimal digits.
-/

namespace Sys2Proof.Machine

theorem toNat_eq_ite (b : Bool) : b.toNat = if b then 1 else 0 :=
  Bool.cond_eq_ite b 1 0

theorem byte_toNat_ofInt (t : Int) : ((BitVec.ofInt 8 t).toNat : Int) = t % 256 := by
  rw [BitVec.toNat_ofInt]
  exact Int.toNat_of_nonneg (Int.emod_nonneg _ (by decide))

/-! ## Signed overflow (R250, R252) -/

theorem byte_msb (v : Byte) : v.msb = decide (128 ≤ v.toNat) :=
  BitVec.msb_eq_decide v

theorem byte_toInt (v : Byte) : v.toInt = if 128 ≤ v.toNat then (v.toNat : Int) - 256 else v.toNat :=
  offsetOfByte_eq v

theorem and_signBit_ne_zero_iff (v : Byte) : v &&& 0x80 ≠ 0 ↔ v.msb = true := by
  have hmask : (0x80 : Byte) = BitVec.twoPow 8 7 := rfl
  have hmsb : v.msb = v.getLsbD 7 := BitVec.msb_eq_getLsbD_last v
  rw [hmask, BitVec.and_twoPow, hmsb]
  cases v.getLsbD 7 <;> decide

/-- The V expressions of R250 and R252: two pairs of bytes of which each differs in sign. -/
theorem signs_differ_iff (a b a' b' : Byte) :
    (a ^^^ b) &&& (a' ^^^ b') &&& 0x80 ≠ 0 ↔ a.msb ≠ b.msb ∧ a'.msb ≠ b'.msb := by
  rw [and_signBit_ne_zero_iff, BitVec.msb_and, BitVec.msb_xor, BitVec.msb_xor, Bool.and_eq_true]
  exact and_congr bne_iff_ne bne_iff_ne

/-- A sum's sign differs from both operands' signs exactly where the signed sum does not fit. -/
theorem addOverflow_iff {a m r : Byte} {c : Nat} (hc : c ≤ 1) (hr : r.toNat = (a.toNat + m.toNat + c) % 256) :
    (a ^^^ r) &&& (m ^^^ r) &&& 0x80 ≠ 0 ↔ a.toInt + m.toInt + c < -128 ∨ 127 < a.toInt + m.toInt + c := by
  have ha := a.isLt
  have hm := m.isLt
  simp only [signs_differ_iff, byte_msb, byte_toInt, ne_eq, decide_eq_decide]
  split <;> split <;> omega

/-- The operands' signs differ, and the difference's from the first's, exactly where the signed difference does not fit. -/
theorem subOverflow_iff {a m r : Byte} {b : Int} (hb : 0 ≤ b ∧ b ≤ 1)
    (hr : (r.toNat : Int) = (a.toNat - m.toNat - b) % 256) :
    (a ^^^ m) &&& (a ^^^ r) &&& 0x80 ≠ 0 ↔ a.toInt - m.toInt - b < -128 ∨ 127 < a.toInt - m.toInt - b := by
  have ha := a.isLt
  have hm := m.isLt
  simp only [signs_differ_iff, byte_msb, byte_toInt, ne_eq, decide_eq_decide]
  split <;> split <;> omega

/-- Settles O42: the result is the total modulo 256 and C says whether it wrapped; V compares signs. -/
theorem binaryArithmeticExact : Obligations.BinaryArithmeticExact := by
  intro m s c add sub
  have ha := s.a.isLt
  have hm := m.isLt
  have hc : s.flags.c.toNat = c := toNat_eq_ite _
  have hc1 : c ≤ 1 := hc ▸ s.flags.c.toNat_le
  have hsum : add.a.toNat = (s.a.toNat + m.toNat + c) % 256 := hc ▸ BitVec.toNat_ofNat _ 8
  have hsumC : add.flags.c = true ↔ 0xFF < s.a.toNat + m.toNat + c := hc ▸ decide_eq_true_iff
  have hdiff : (sub.a.toNat : Int) = (s.a.toNat - m.toNat - (1 - c)) % 256 := hc ▸ byte_toNat_ofInt _
  have hdiffC : sub.flags.c = true ↔ 0 ≤ (s.a.toNat : Int) - m.toNat - (1 - c) := hc ▸ decide_eq_true_iff
  refine ⟨?sum, ?sumV, ?diff, ?diffV, decide_eq_true_iff, ?z⟩
  case sum =>
    simp only [hsumC]
    split <;> omega
  case sumV => exact bne_iff_ne.trans (addOverflow_iff hc1 hsum)
  case diff =>
    simp only [hdiffC]
    split <;> omega
  case diffV => exact bne_iff_ne.trans (subOverflow_iff (by omega) hdiff)
  case z => exact beq_iff_eq.trans (sub_eq_zero.trans eq_comm)

/-! ## The masks of the decimal rules (R251, R253) -/

theorem and_shiftLeft (n mask k : Nat) : n &&& mask <<< k = ((n >>> k) &&& mask) <<< k := by
  apply Nat.eq_of_testBit_eq
  intro j
  by_cases h : k ≤ j <;> simp [Nat.testBit_shiftLeft, Nat.testBit_shiftRight, h]

/-- A mask of `width` ones at bit `k`. -/
theorem and_mask_shiftLeft (n width k : Nat) : n &&& (2 ^ width - 1) <<< k = n / 2 ^ k % 2 ^ width * 2 ^ k := by
  rw [and_shiftLeft, Nat.and_two_pow_sub_one_eq_mod, Nat.shiftLeft_eq, Nat.shiftRight_eq_div_pow]

theorem and_0x0F (n : Nat) : n &&& 0x0F = n % 16 :=
  Nat.and_two_pow_sub_one_eq_mod n 4

theorem byte_and_0x0F (v : Byte) : (v &&& 0x0F).toNat = v.toNat % 16 :=
  and_0x0F v.toNat

theorem byte_and_0xF0 (v : Byte) : (v &&& 0xF0).toNat = v.toNat / 16 * 16 := by
  have hv := v.isLt
  have hmask : (v &&& 0xF0).toNat = v.toNat / 16 % 16 * 16 := and_mask_shiftLeft v.toNat 4 4
  omega

theorem byte_shiftRight_4 (v : Byte) : (v >>> 4).toNat = v.toNat / 16 :=
  Nat.shiftRight_eq_div_pow v.toNat 4

/-! ## The decimal rules on decimal digits (R251, R253) -/

/-- Both digits of the byte are decimal. -/
def DecimalDigits (v : Byte) : Prop := v.toNat % 16 ≤ 9 ∧ v.toNat / 16 ≤ 9

/-- The number that two decimal digits stand for. -/
def decimalValue (v : Byte) : Nat := v.toNat / 16 * 10 + v.toNat % 16

/-- The low digits' decimal sum, with its carry added to the high digits. -/
theorem decimalSum_eq {a m : Byte} (ha : DecimalDigits a) (hm : DecimalDigits m) (c : Bool) :
    let low := a.toNat % 16 + m.toNat % 16 + c.toNat
    decimalSum a m c = (a.toNat / 16 + m.toNat / 16 + low / 10) * 16 + low % 10 := by
  obtain ⟨haLow, haHigh⟩ := ha
  obtain ⟨hmLow, hmHigh⟩ := hm
  have hc := c.toNat_le
  simp only [decimalSum, decimalLow, byte_and_0x0F, byte_and_0xF0, and_0x0F]
  split <;> split <;> omega

theorem decimalAdjust_eq {high low : Nat} (hhigh : high ≤ 19) (hlow : low ≤ 9) :
    decimalAdjust (high * 16 + low) = (high + if 9 < high then 6 else 0) * 16 + low := by
  have hmask : (high * 16 + low) &&& 0x1F0 = (high * 16 + low) / 16 % 32 * 16 := and_mask_shiftLeft _ 5 4
  rw [decimalAdjust, hmask]
  split <;> split <;> omega

/-- The high digits' decimal sum, and its carry. -/
theorem decimalAdjust_digits {high low : Nat} (hhigh : high ≤ 19) (hlow : low ≤ 9) :
    decimalAdjust (high * 16 + low) % 256 = high % 10 * 16 + low ∧
      (15 < decimalAdjust (high * 16 + low) / 16 % 256 ↔ 9 < high) := by
  rw [decimalAdjust_eq hhigh hlow]
  split
  · have hwrap : high % 10 = high - 10 := by omega
    omega
  · have hwrap : high % 10 = high := by omega
    omega

/-- C of R251 from the high digits alone. -/
theorem addDecimal_c_iff (m : Byte) (s : State) :
    (addDecimal m s).flags.c = true ↔ 15 < decimalAdjust (decimalSum s.a m s.flags.c) / 16 % 256 := by
  have hmask (n : Nat) : n &&& 0xFF0 = n / 16 % 256 * 16 := and_mask_shiftLeft n 8 4
  rw [addDecimal, decide_eq_true_iff, hmask]
  omega

/-- The digits of the sum, and its carry. -/
theorem addDecimal_digits {m : Byte} {s : State} (ha : DecimalDigits s.a) (hm : DecimalDigits m) :
    let low := s.a.toNat % 16 + m.toNat % 16 + s.flags.c.toNat
    let high := s.a.toNat / 16 + m.toNat / 16 + low / 10
    (addDecimal m s).a.toNat % 16 = low % 10 ∧ (addDecimal m s).a.toNat / 16 = high % 10 ∧
      ((addDecimal m s).flags.c = true ↔ 9 < high) := by
  intro low high
  have ht : decimalSum s.a m s.flags.c = high * 16 + low % 10 := decimalSum_eq ha hm s.flags.c
  have hresult : (addDecimal m s).a.toNat = decimalAdjust (decimalSum s.a m s.flags.c) % 256 := BitVec.toNat_ofNat _ 8
  have hhigh : high ≤ 19 := by
    obtain ⟨haLow, haHigh⟩ := ha
    obtain ⟨hmLow, hmHigh⟩ := hm
    have hc := s.flags.c.toNat_le
    omega
  obtain ⟨hpacked, hcarry⟩ := decimalAdjust_digits (low := low % 10) hhigh (by omega)
  rw [addDecimal_c_iff, hresult, ht, hpacked]
  exact ⟨by omega, by omega, hcarry⟩

theorem addDecimal_value {m : Byte} {s : State} (ha : DecimalDigits s.a) (hm : DecimalDigits m) :
    DecimalDigits (addDecimal m s).a ∧
      decimalValue s.a + decimalValue m + s.flags.c.toNat =
        (if (addDecimal m s).flags.c then 100 else 0) + decimalValue (addDecimal m s).a := by
  obtain ⟨hlow, hhigh, hcarry⟩ := addDecimal_digits ha hm
  obtain ⟨haLow, haHigh⟩ := ha
  obtain ⟨hmLow, hmHigh⟩ := hm
  have hc := s.flags.c.toNat_le
  simp only [DecimalDigits, decimalValue, hlow, hhigh, hcarry]
  refine ⟨by omega, ?_⟩
  split <;> omega

/-- R253's digit-wise difference, from the digits' differences. -/
theorem decimalDifference_rule {a m : Byte} {c : Bool} {lo hi : Int}
    (hlo : ((a &&& 0x0F).toNat : Int) - (m &&& 0x0F).toNat - (1 - c.toNat) = lo)
    (hhi : ((a >>> 4).toNat : Int) - (m >>> 4).toNat = hi) :
    decimalDifference a m c =
      let hi' := if lo < 0 then hi - 1 else hi
      let lo' := if lo < 0 then lo - 6 else lo
      BitVec.ofInt 8 ((if hi' < 0 then hi' - 6 else hi') % 16 * 16 + lo' % 16) := by
  simp only [decimalDifference, hlo, hhi]
  by_cases hborrow : lo < 0 <;> simp only [hborrow, if_true, if_false]

/-- The low digits' decimal difference, with its borrow taken from the high digits, and the high digits' difference. -/
theorem decimalDifference_eq {a m : Byte} (ha : DecimalDigits a) (hm : DecimalDigits m) (c : Bool) :
    let low : Int := (a.toNat % 16 : Nat) - (m.toNat % 16 : Nat) - (1 - c.toNat)
    let high : Int := (a.toNat / 16 : Nat) - (m.toNat / 16 : Nat) + low / 10
    ((decimalDifference a m c).toNat : Int) = high % 10 * 16 + low % 10 := by
  obtain ⟨haLow, haHigh⟩ := ha
  obtain ⟨hmLow, hmHigh⟩ := hm
  have hc := c.toNat_le
  simp only [decimalDifference_rule rfl rfl, byte_toNat_ofInt, byte_and_0x0F, byte_shiftRight_4]
  split <;> split <;> omega

/-- The digits of the difference, and its borrow: C of R252 compares the digits too. -/
theorem subDecimal_digits {m : Byte} {s : State} (ha : DecimalDigits s.a) (hm : DecimalDigits m) :
    let low : Int := (s.a.toNat % 16 : Nat) - (m.toNat % 16 : Nat) - (1 - s.flags.c.toNat)
    let high : Int := (s.a.toNat / 16 : Nat) - (m.toNat / 16 : Nat) + low / 10
    ((subDecimal m s).a.toNat % 16 : Nat) = low % 10 ∧ ((subDecimal m s).a.toNat / 16 : Nat) = high % 10 ∧
      ((subDecimal m s).flags.c = true ↔ 0 ≤ high) := by
  intro low high
  have hpacked : ((subDecimal m s).a.toNat : Int) = high % 10 * 16 + low % 10 := decimalDifference_eq ha hm s.flags.c
  refine ⟨by omega, by omega, ?borrow⟩
  case borrow =>
    obtain ⟨haLow, -⟩ := ha
    obtain ⟨hmLow, -⟩ := hm
    have hc := s.flags.c.toNat_le
    rw [subDecimal, subtractFlags, decide_eq_true_iff, subtractTotal]
    omega

theorem subDecimal_value {m : Byte} {s : State} (ha : DecimalDigits s.a) (hm : DecimalDigits m) :
    DecimalDigits (subDecimal m s).a ∧
      (decimalValue s.a : Int) - decimalValue m - (1 - s.flags.c.toNat) =
        decimalValue (subDecimal m s).a - (if (subDecimal m s).flags.c then 0 else 100) := by
  obtain ⟨hlow, hhigh, hborrow⟩ := subDecimal_digits ha hm
  obtain ⟨haLow, haHigh⟩ := ha
  obtain ⟨hmLow, hmHigh⟩ := hm
  have hc := s.flags.c.toNat_le
  simp only [DecimalDigits, decimalValue, hborrow]
  refine ⟨by omega, ?_⟩
  split <;> omega

/-- Settles O43: on decimal digits both rules work digit by digit, in tens. -/
theorem decimalArithmeticOnDigits : Obligations.DecimalArithmeticOnDigits := by
  intro m s digits value c add sub ha hm
  obtain ⟨hsumDigits, hsum⟩ := addDecimal_value (m := m) (s := s) ha hm
  obtain ⟨hdiffDigits, hdiff⟩ := subDecimal_value (m := m) (s := s) ha hm
  rw [toNat_eq_ite] at hsum hdiff
  exact ⟨hsumDigits, hsum, hdiffDigits, hdiff⟩

end Sys2Proof.Machine
end

section
/-!
PROOFS. Logic, compares, add and subtract, counts in memory and shifts in every mode (R250 to R265, R270 to R274). A
read-modify-write instruction changes flags before its write or after it; the write does not see them.
-/

namespace Sys2Proof.Machine

open Sys2Proof.Safety

/-! ## Logic and compares (R256 to R263) -/

/-- Settles O33: each mode's meaning is a read of its shape, and no operation touches the cycle count. -/
theorem logicAndCompare : Obligations.LogicAndCompare := by
  intro s b a cmp bit
  have hcmp : ∀ r v u, (cmp r v u).cycles = u.cycles := fun _ _ _ => rfl
  have hbit : ∀ v u, (bit v u).cycles = u.cycles := fun _ _ => rfl
  refine ⟨?and, ?ora, ?eor, ?cmp, ?bit, ?cpx, ?cpy⟩
  case and | ora | eor =>
    exact readsInEightModes_of_readThen (fun _ _ => rfl) (by and_intros <;> rfl) (by and_intros <;> rfl)
  case cmp => exact readsInEightModes_of_readThen (hcmp State.a) (by and_intros <;> rfl) (by and_intros <;> rfl)
  case bit => exact ⟨reads_of_readThen hbit rfl rfl rfl, reads_of_readThen hbit rfl rfl rfl⟩
  case cpx =>
    exact ⟨does_of_complete (cmp State.x b s) rfl rfl rfl, reads_of_readThen (hcmp State.x) rfl rfl rfl,
      reads_of_readThen (hcmp State.x) rfl rfl rfl⟩
  case cpy =>
    exact ⟨does_of_complete (cmp State.y b s) rfl rfl rfl, reads_of_readThen (hcmp State.y) rfl rfl rfl,
      reads_of_readThen (hcmp State.y) rfl rfl rfl⟩

/-! ## Add and subtract (R250 to R255) -/

theorem addWithCarry_eq :
    addWithCarry = fun m u => if u.flags.d = false then addBinary m u else addDecimal m u := by
  funext m u
  cases hd : u.flags.d <;> simp [addWithCarry, hd]

theorem subtractWithBorrow_eq :
    subtractWithBorrow = fun m u => if u.flags.d = false then subBinary m u else subDecimal m u := by
  funext m u
  cases hd : u.flags.d <;> simp [subtractWithBorrow, hd]

theorem addWithCarry_cycles (m : Byte) (s : State) : (addWithCarry m s).cycles = s.cycles := by
  obtain ⟨-, -, -, -, hcycles, -⟩ := addWithCarry_frame m s
  exact hcycles

theorem subtractWithBorrow_cycles (m : Byte) (s : State) : (subtractWithBorrow m s).cycles = s.cycles := by
  obtain ⟨-, -, -, -, hcycles, -⟩ := subtractWithBorrow_frame m s
  exact hcycles

theorem bne_zero_eq_decide (v : Byte) : (v != 0) = decide (v ≠ 0) := by
  rw [decide_not, bne, beq_eq_decide]

theorem nat_and_signBit_eq_zero_iff (n : Nat) : n &&& 0x80 = 0 ↔ n.testBit 7 = false := by
  have hmask : n &&& 0x80 = (n.testBit 7).toNat * 128 := Nat.and_two_pow n 7
  cases hbit : n.testBit 7 <;> simp [hmask, hbit]

/-- V of R251, from the sum as a number and from its low byte. -/
theorem decimal_v_eq (a m : Byte) (t : Nat) :
    ((a ^^^ BitVec.ofNat 8 t) &&& 0x80 != 0 && (a ^^^ m) &&& 0x80 == 0) =
      decide (((a.toNat ^^^ t) &&& 0x80) ≠ 0 ∧ ((a.toNat ^^^ m.toNat) &&& 0x80) = 0) := by
  have hbyte (v : Byte) : v &&& 0x80 = 0 ↔ v.toNat &&& 0x80 = 0 := BitVec.toNat_inj.symm
  have hsum : (a ^^^ BitVec.ofNat 8 t) &&& 0x80 = 0 ↔ (a.toNat ^^^ t) &&& 0x80 = 0 := by
    rw [hbyte, nat_and_signBit_eq_zero_iff, nat_and_signBit_eq_zero_iff, BitVec.toNat_xor, BitVec.toNat_ofNat,
      Nat.testBit_xor, Nat.testBit_xor, Nat.testBit_mod_two_pow]
    rfl
  rw [Bool.eq_iff_iff, Bool.and_eq_true, bne_iff_ne, beq_iff_eq, decide_eq_true_iff, ne_eq, hsum, hbyte (a ^^^ m)]
  rfl

/-- Settles O34: the rules by the quantities they compute on the way, the modes by the shape of a read. -/
theorem addAndSubtract : Obligations.AddAndSubtract := by
  refine ⟨?rules, fun s b a => ⟨?adc, ?sbc⟩⟩
  case adc =>
    exact addWithCarry_eq ▸
      readsInEightModes_of_readThen addWithCarry_cycles (by and_intros <;> rfl) (by and_intros <;> rfl)
  case sbc =>
    exact subtractWithBorrow_eq ▸
      readsInEightModes_of_readThen subtractWithBorrow_cycles (by and_intros <;> rfl) (by and_intros <;> rfl)
  case rules =>
    intro m s c sum r lo lo' t u diff q dlo dhi dhi' dlo' dhi'' flagsOfSub
    have hc : s.flags.c.toNat = c := toNat_eq_ite _
    have hsum : s.a.toNat + m.toNat + s.flags.c.toNat = sum := congrArg (s.a.toNat + m.toNat + ·) hc
    have ht : decimalSum s.a m s.flags.c = t := by
      rw [decimalSum, decimalLow, hc]
      rfl
    have hdiff : subtractTotal s m = diff := by
      rw [subtractTotal, hc]
    have hdlo : ((s.a &&& 0x0F).toNat : Int) - (m &&& 0x0F).toNat - (1 - s.flags.c.toNat) = dlo := by
      rw [hc]
      rfl
    have hflags : subtractFlags m s = flagsOfSub := by
      rw [subtractFlags, hdiff, bne_zero_eq_decide]
      rfl
    refine ⟨?addBinary, ?addDecimal, ?subBinary, ?subDecimal⟩
    case addBinary =>
      rw [addBinary, hsum, bne_zero_eq_decide]
      rfl
    case addDecimal =>
      rw [addDecimal, ht, hsum, decimal_v_eq, BitVec.getLsbD_ofNat]
      rfl
    case subBinary => rw [subBinary, hdiff, hflags]
    case subDecimal =>
      rw [subDecimal, decimalDifference_rule hdlo rfl, hflags]
      rfl

/-! ## Read-modify-write instructions (R93) -/

theorem memWrite_withFlags (a : Addr) (v : Byte) (s : State) (f : Flags) :
    memWrite a v { s with flags := f } = { memWrite a v s with flags := f } := by
  have hio : isIO a { s with flags := f } = isIO a s := rfl
  cases h : isIO a s
  case false => rw [memWrite_ram h, memWrite_ram (hio.trans h)]; rfl
  case true =>
    cases hc : s.params.writeCallback
    case absent => rw [memWrite_absent h hc, memWrite_absent (hio.trans h) hc]; rfl
    case host => rw [memWrite_host h hc, memWrite_host (hio.trans h) hc]; rfl
    case block =>
      rw [memWrite_block h hc, memWrite_block (hio.trans h) hc]
      unfold writeIntercept
      split_ifs <;> rfl

/-- The operation `f` before the write and what `k` does after it give together the new value `r` and the effect `g`: `f`
changes at most the flags, as `fl` says. -/
structure SplitsAroundWrite (f : Byte → State → Byte × State) (k : Byte → State → State) (r : Byte → Bool → Byte)
    (g : Byte → Byte → State → State) (fl : Byte → Flags → Flags) : Prop where
  before : ∀ v u, f v u = (r v u.flags.c, { u with flags := fl v u.flags })
  after : ∀ v u, k (r v u.flags.c) { u with flags := fl v u.flags } = g v (r v u.flags.c) u
  cycles : ∀ v w u, (g v w u).cycles = u.cycles

theorem modifies_of_modifyAt {i : Instr} {op : Byte} {e : Ea} {n : Nat} {f : Byte → State → Byte × State}
    {k : Byte → State → State} {r : Byte → Bool → Byte} {g : Byte → Byte → State → State} {fl : Byte → Flags → Flags}
    {s : State} (h : SplitsAroundWrite f k r g fl) (hop : opcodeOf i = op) (hexec : exec i s = modifyAt e n f k s) :
    Modifies i op e n r g s := by
  unfold Modifies
  intro old new
  let u := (memRead e.addr s).2
  let w := memWrite e.addr new u
  obtain ⟨-, -, -, -, -, hread, hreadCycles, -⟩ := memRead_frame e.addr s
  obtain ⟨-, -, -, -, -, hwrite, hwriteCycles, -⟩ := memWrite_frame e.addr new u
  have hbefore : f old u = (new, { u with flags := fl old s.flags }) := by rw [h.before, hread]
  have hafter : k new { w with flags := fl old s.flags } = g old new w := by
    have hw := h.after old w
    rwa [hwrite.trans hread] at hw
  have hmeaning : modifyAt e n f k s = complete n (g old new w) := by
    change complete n (k (f old u).1 (memWrite e.addr (f old u).1 (f old u).2)) = _
    rw [hbefore, memWrite_withFlags, hafter]
  exact does_of_complete _ hop (hexec.trans hmeaning) ((h.cycles old new w).trans (hwriteCycles.trans hreadCycles))

/-- The four modes of R271 at once, from the opcodes and the meanings. -/
theorem modifiesInFourModes_of_modifyAt {zp zpx : Byte → Instr} {abs absx : Addr → Instr} {oZp oZpx oAbs oAbsx : Byte}
    {f : Byte → State → Byte × State} {k : Byte → State → State} {r : Byte → Bool → Byte}
    {g : Byte → Byte → State → State} {fl : Byte → Flags → Flags} {s : State} {b : Byte} {a : Addr}
    (h : SplitsAroundWrite f k r g fl)
    (hops : opcodeOf (zp b) = oZp ∧ opcodeOf (zpx b) = oZpx ∧ opcodeOf (abs a) = oAbs ∧ opcodeOf (absx a) = oAbsx)
    (hexec : exec (zp b) s = modifyAt (eaZp b) 5 f k s ∧ exec (zpx b) s = modifyAt (eaZpx b s) 6 f k s ∧
      exec (abs a) s = modifyAt (eaAbs a) 6 f k s ∧ exec (absx a) s = modifyAt (eaAbsx a s) 7 f k s) :
    ModifiesInFourModes zp zpx abs absx oZp oZpx oAbs oAbsx r g s b a := by
  obtain ⟨oz, ozx, oa, oax⟩ := hops
  obtain ⟨ez, ezx, ea, eax⟩ := hexec
  exact ⟨modifies_of_modifyAt h oz ez, modifies_of_modifyAt h ozx ezx, modifies_of_modifyAt h oa ea,
    modifies_of_modifyAt h oax eax⟩

/-! ## Counts in memory, shifts and rotates (R264, R265, R270 to R274) -/

/-- The flags after a shift or rotate: C is the bit `k` that falls out of the old byte. -/
def shiftFlags (k : Nat) (old new : Byte) (f : Flags) : Flags := { zn new f with c := old.getLsbD k }

/-- A shift or rotate sets its flags before the write, and nothing after it. -/
theorem shift_splitsAroundWrite {f : Byte → State → Byte × State} {r : Byte → Bool → Byte} (k : Nat)
    (h : ∀ v u, f v u = (r v u.flags.c, { u with flags := shiftFlags k v (r v u.flags.c) u.flags })) :
    SplitsAroundWrite f doneAfterWrite r (fun old new u => { u with flags := shiftFlags k old new u.flags })
      (fun v fs => shiftFlags k v (r v fs.c) fs) :=
  ⟨h, fun _ _ => rfl, fun _ _ _ => rfl⟩

/-- A count sets Z and N after the write, and nothing before it. -/
theorem count_splitsAroundWrite {f : Byte → State → Byte × State} {r : Byte → Bool → Byte}
    (h : ∀ v u, f v u = (r v u.flags.c, u)) :
    SplitsAroundWrite f setZN r (fun _ new u => { u with flags := zn new u.flags }) (fun _ fs => fs) :=
  ⟨h, fun _ _ => rfl, fun _ _ _ => rfl⟩

/-- Settles O35: the counts set their flags after the write, the shifts before it; on A there is no write. -/
theorem countsAndShifts : Obligations.CountsAndShifts := by
  unfold Obligations.CountsAndShifts
  intro carry left right only s b a
  refine ⟨?inc, ?dec, ?asl, ?lsr, ?rol, ?ror, ?accumulator⟩
  case inc | dec =>
    exact modifiesInFourModes_of_modifyAt (count_splitsAroundWrite fun _ _ => rfl) (by and_intros <;> rfl)
      (by and_intros <;> rfl)
  case asl | rol =>
    exact modifiesInFourModes_of_modifyAt (shift_splitsAroundWrite 7 fun _ _ => rfl) (by and_intros <;> rfl)
      (by and_intros <;> rfl)
  case lsr | ror =>
    exact modifiesInFourModes_of_modifyAt (shift_splitsAroundWrite 0 fun _ _ => rfl) (by and_intros <;> rfl)
      (by and_intros <;> rfl)
  case accumulator =>
    intro onA
    have honA {i : Instr} {op : Byte} {r : Byte} {g : Byte → Byte → State → State} (hop : opcodeOf i = op)
        (hexec : exec i s = complete 2 { g s.a r s with a := r }) (hcycles : (g s.a r s).cycles = s.cycles) :
        Does i op s (onA r g) :=
      does_of_complete { g s.a r s with a := r } hop hexec hcycles
    exact ⟨honA rfl rfl rfl, honA rfl rfl rfl, honA rfl rfl rfl, honA rfl rfl rfl⟩

end Sys2Proof.Machine
end

section
/-!
PROOFS. Control transfers: the branches, jumps and returns as next states (R300 to R313), and what a return finds on the
stack after an entry or a call, an interrupt's or the kernal trap's (R408, R411, R418 to R420).
-/

namespace Sys2Proof.Machine

open Sys2Proof.Safety

/-! ## Branches (R300 to R308) -/

theorem branches_of_branchIf {i : Int → Instr} {op : Byte} {cond : Flags → Bool} {s : State} {off : Int}
    (hop : opcodeOf (i off) = op) (hexec : exec (i off) s = branchIf (cond s.flags) off s) :
    Branches i op cond s off := by
  rw [branchIf_eq, branchTarget_eq, pagesDiffer_eq] at hexec
  refine ⟨fun hnot => ⟨hop, ?notTaken⟩, fun htaken => ⟨hop, ?taken⟩⟩
  case notTaken =>
    rw [hexec, hnot]
    rfl
  case taken =>
    rw [hexec, htaken, decide_not]
    simp [State.addCycles, ite_not]

/-- Settles O36: each branch is `branchIf` of its condition. -/
theorem branchInstructions : Obligations.BranchInstructions := by
  intro s off
  refine ⟨?_, ?_, ?_, ?_, ?_, ?_, ?_, ?_⟩ <;> exact branches_of_branchIf rfl rfl

/-! ## Jumps, calls and returns (R309 to R313) -/

theorem pushAddr_cycles (a : Addr) (s : State) : (pushAddr a s).cycles = s.cycles := by
  rw [pushAddr_eq]

theorem jumpIndirect_cycles (a : Addr) (s : State) : (jumpIndirect a s).2.cycles = s.cycles := by
  simp [jumpIndirect]

theorem returnFromSubroutine_cycles (s : State) : (returnFromSubroutine s).cycles = s.cycles := by
  rw [returnFromSubroutine_eq]

theorem returnFromInterrupt_cycles (s : State) : (returnFromInterrupt s).cycles = s.cycles := by
  rw [returnFromInterrupt_eq]

/-- A pull does not look at the flags, so RTI may set them before the PC is pulled or after (R312). -/
theorem returnFromInterrupt_eq_pulls (s : State) :
    let p := pull s
    let lo := pull p.2
    let hi := pull lo.2
    returnFromInterrupt s = { hi.2 with flags := flagsOfP p.1, pc := mkAddr lo.1 hi.1 } := by
  simp [returnFromInterrupt_eq, pull_eq]

/-- Taking an interrupt in the words of R313: three pushes, I, and a read of the vector. -/
theorem takeInterrupt_eq_pushes (vec ret : Addr) (p : Byte) (ev : Addr → Byte → Event) (cost : Nat) (s : State) :
    let u := push p (push (loByte ret) (push (hiByte ret) s))
    let v := memRead16 vec { u with flags := { s.flags with i := true } }
    takeInterrupt vec ret p ev cost s =
      { v.2 with pc := v.1, cycles := s.cycles + cost, events := ev ret p :: s.events } := by
  intro u v
  have hu : setI (push p (pushAddr ret s)) = { u with flags := { s.flags with i := true } } := by
    simp [u, setI, pushAddr, push_eq]
  have hcycles : v.2.cycles = s.cycles := by simp [v, u, push_eq]
  have hevents : v.2.events = s.events := by simp [v, u, push_eq]
  rw [← hcycles, ← hevents, takeInterrupt, hu]
  rfl

/-- Settles O37: the jumps and returns complete with the shared operations' states, which leave the cycle count alone; BRK
takes an interrupt. -/
theorem jumpsReturnsBreak : Obligations.JumpsReturnsBreak := by
  intro s a
  refine ⟨?jmp, ?jmpIndirect, ?jsr, ?rts, ?rti, ?brk⟩
  case jmp => exact does_of_complete { s with pc := a } rfl rfl rfl
  case jmpIndirect =>
    exact does_of_complete { (jumpIndirect a s).2 with pc := (jumpIndirect a s).1 } rfl rfl (jumpIndirect_cycles a s)
  case jsr => exact does_of_complete { pushAddr (s.pc - 1) s with pc := a } rfl rfl (pushAddr_cycles _ s)
  case rts => exact does_of_complete (returnFromSubroutine s) rfl rfl (returnFromSubroutine_cycles s)
  case rti =>
    have hrti := does_of_complete (op := 0x40) (returnFromInterrupt s) rfl (rfl : exec .rti s = _)
      (returnFromInterrupt_cycles s)
    rwa [returnFromInterrupt_eq_pulls] at hrti
  case brk => exact ⟨rfl, congrArg Host.Outcome.next (takeInterrupt_eq_pushes _ _ _ _ _ s)⟩

/-! ## RTI after an entry (R411, R312) -/

/-- The two cells that hold a pushed address, its high byte above its low byte (R91). -/
theorem read_pushAddr_pushed {s : State} (h : MemoryInv s) (a : Addr) :
    (pushAddr a s).ram.read (256 + s.sp.toNat) = hiByte a ∧
      (pushAddr a s).ram.read (256 + (s.sp - 1).toNat) = loByte a := by
  have hhigh := memoryInv_push h (hiByte a)
  rw [push_eq] at hhigh
  rw [pushAddr_eq]
  exact ⟨(Memory.read_write_other hhigh.1 (by bv_omega) _).trans (Memory.read_write_same h.1 _ _),
    Memory.read_write_same hhigh.1 _ _⟩

/-- The three cells that an interrupt entry or BRK pushes (R408, R313). -/
theorem read_ramAfterEntry_pushed {s : State} (h : MemoryInv s) (ret : Addr) (p : Byte) :
    (ramAfterEntry ret p s).read (256 + s.sp.toNat) = hiByte ret ∧
      (ramAfterEntry ret p s).read (256 + (s.sp - 1).toNat) = loByte ret ∧
      (ramAfterEntry ret p s).read (256 + (s.sp - 1 - 1).toNat) = p := by
  have hinv := memoryInv_pushAddr h ret
  obtain ⟨hhigh, hlow⟩ := read_pushAddr_pushed h ret
  rw [pushAddr_eq] at hinv hhigh hlow
  exact ⟨(Memory.read_write_other hinv.1 (by bv_omega) _).trans hhigh,
    (Memory.read_write_other hinv.1 (by bv_omega) _).trans hlow, Memory.read_write_same hinv.1 _ _⟩

/-- What taking an interrupt does to the registers, wherever the vector stands. -/
theorem takeInterrupt_registers (vec ret : Addr) (p : Byte) (ev : Addr → Byte → Event) (cost : Nat) (s : State) :
    let t := takeInterrupt vec ret p ev cost s
    t.a = s.a ∧ t.x = s.x ∧ t.y = s.y ∧ t.sp = s.sp - 1 - 1 - 1 ∧ t.cycles = s.cycles + cost := by
  simp [takeInterrupt_eq_pushes, push_eq]

/-- A return from an interrupt right after one was taken finds what was pushed. -/
theorem returnFromInterrupt_takeInterrupt {s : State} (h : MemoryInv s) (vec ret : Addr) (p : Byte)
    (ev : Addr → Byte → Event) (cost : Nat) :
    let t := returnFromInterrupt (takeInterrupt vec ret p ev cost s)
    t.pc = ret ∧ t.flags = flagsOfP p ∧ t.sp = s.sp ∧ t.a = s.a ∧ t.x = s.x ∧ t.y = s.y ∧
      t.cycles = s.cycles + cost := by
  obtain ⟨ha, hx, hy, hsp, hcycles⟩ := takeInterrupt_registers vec ret p ev cost s
  obtain ⟨hhigh, hlow, hstatus⟩ := read_ramAfterEntry_pushed h ret p
  simp only [returnFromInterrupt_eq, takeInterrupt_ram, ha, hx, hy, hsp, hcycles, sub_add_cancel, hhigh, hlow, hstatus,
    mkAddr_bytes, and_self]

/-- SetP ignores the break flag (R44). -/
theorem flagsOfP_clearBreak (p : Byte) : flagsOfP (p &&& 0xEF) = flagsOfP p := by
  simp [flagsOfP]

/-- Settles O19: RTI finds what the entry pushed, and SetP ignores the break flag that the entry masks off. -/
theorem returnUndoesEntry : Obligations.ReturnUndoesEntry := by
  intro s vec ev hinv
  obtain ⟨hpc, hflags, hsp, ha, hx, hy, hcycles⟩ :=
    returnFromInterrupt_takeInterrupt hinv vec s.pc (getP s.flags &&& 0xEF) ev s.params.intCycles
  rw [flagsOfP_clearBreak, flagsOfP_getP] at hflags
  exact ⟨_, rfl, hpc, hflags, hsp, ha, hx, hy, congrArg (· + 6) hcycles⟩

/-! ## The trap after a call (R418 to R420) -/

/-- An opcode of one byte, decoded or not, is fetched alone (R370). -/
theorem fetchLength_of_opcodeLength_one {op : Byte} (h : opcodeLength op = 1) (p : Params) : fetchLength p op = 1 := by
  cases hundec : isUndecoded p op
  case false => exact (fetchLength_decoded hundec).trans h
  case true => exact fetchLength_undecoded hundec

theorem callTrap_params (a : Addr) (s : State) : (callTrap a s).params = s.params := by
  unfold callTrap
  split <;> rfl

theorem callTrap_cycles (a : Addr) (s : State) : (callTrap a s).cycles = s.cycles := by
  unfold callTrap
  split <;> rfl

/-- The trap with a return opcode of one byte: the callback, then that instruction (R418). -/
theorem kernalTrap_of_decode {s : State} {i : Instr} (hdec : decode [s.params.trapReturnOpcode] = .ok (i, []))
    (a : Addr) :
    kernalTrap a s = exec i { (callTrap a s).record (.trap a) with pc := (callTrap a s).pc + 1 } := by
  obtain ⟨hlen, hbytes⟩ := decode_ok_nil hdec
  have hfetch := fetchLength_of_opcodeLength_one hlen s.params
  simp [kernalTrap, fetchOperands, fetchIf, callTrap_params, hfetch, ← hbytes]

/-- `u` has the return address that RTS would pull in `t`, in the same place: the contract of a trap callback (R420). -/
structure KeepsReturnAddress (t u : State) : Prop where
  sp : u.sp = t.sp
  low : u.ram.read (256 + (t.sp + 1).toNat) = t.ram.read (256 + (t.sp + 1).toNat)
  high : u.ram.read (256 + (t.sp + 2).toNat) = t.ram.read (256 + (t.sp + 2).toNat)

theorem KeepsReturnAddress.pullAddr_eq {t u : State} (h : KeepsReturnAddress t u) :
    (pullAddr u).1 = (pullAddr t).1 ∧ (pullAddr u).2.sp = (pullAddr t).2.sp := by
  have htwo : t.sp + 1 + 1 = t.sp + 2 := by bv_omega
  simp only [Machine.pullAddr_eq, h.sp, htwo, h.low, h.high, and_self]

/-- A callback that leaves S and does not write the return address meets the contract (R420). -/
theorem keepsReturnAddress_applyTrap {t : State} (h : MemoryInv t) {r : Config.TrapResult} (hsp : r.sp = t.sp)
    (hwrites : ∀ w ∈ r.ramWrites, w.1.toNat ≠ 256 + (t.sp + 1).toNat ∧ w.1.toNat ≠ 256 + (t.sp + 2).toNat) :
    KeepsReturnAddress t (applyTrap r t) := by
  have hkept {k : Nat} (hk : ∀ w ∈ r.ramWrites, w.1.toNat ≠ k) : (applyTrap r t).ram.read k = t.ram.read k := by
    refine read_writeAll_other h.1 ?_ ?_
    all_goals
      intro w hw
      obtain ⟨w, hmem, rfl⟩ := List.mem_map.1 hw
    · exact w.1.isLt
    · exact (hk w hmem).symm
  exact ⟨hsp, hkept fun w hw => (hwrites w hw).1, hkept fun w hw => (hwrites w hw).2⟩

theorem keepsReturnAddress_callTrap {t : State} (h : MemoryInv t) (a : Addr)
    (hcontract : t.params.trapCallback = true →
      (Config.trapEffect t.draws (trapView a t)).sp = t.sp ∧
      ∀ w ∈ (Config.trapEffect t.draws (trapView a t)).ramWrites,
        w.1.toNat ≠ 256 + (t.sp + 1).toNat ∧ w.1.toNat ≠ 256 + (t.sp + 2).toNat) :
    KeepsReturnAddress t (callTrap a t) := by
  unfold callTrap
  split
  case isTrue hcallback =>
    obtain ⟨hsp, hwrites⟩ := hcontract hcallback
    exact keepsReturnAddress_applyTrap h hsp hwrites
  case isFalse => exact ⟨rfl, rfl, rfl⟩

/-- The trap with the default return opcode returns to the address that was on the stack before the callback (R418, R420). -/
theorem kernalTrap_returns {t : State} {a : Addr} (hrts : t.params.trapReturnOpcode = 0x60)
    (hkeeps : KeepsReturnAddress t (callTrap a t)) :
    ∃ u, kernalTrap a t = .next u ∧ u.pc = (pullAddr t).1 + 1 ∧ u.sp = (pullAddr t).2.sp ∧ u.cycles = t.cycles + 6 := by
  have hdec : decode [t.params.trapReturnOpcode] = .ok (.rts, []) := hrts ▸ rfl
  let v : State := { (callTrap a t).record (.trap a) with pc := (callTrap a t).pc + 1 }
  have hv : KeepsReturnAddress t v := ⟨hkeeps.sp, hkeeps.low, hkeeps.high⟩
  obtain ⟨hpc, hsp⟩ := hv.pullAddr_eq
  have hcycles : (returnFromSubroutine v).cycles = t.cycles :=
    (returnFromSubroutine_cycles v).trans (callTrap_cycles a t)
  exact ⟨_, kernalTrap_of_decode hdec a, congrArg (· + 1) hpc, hsp, congrArg (· + 6) hcycles⟩

theorem pullAddr_pushAddr {s : State} (h : MemoryInv s) (a : Addr) :
    (pullAddr (pushAddr a s)).1 = a ∧ (pullAddr (pushAddr a s)).2.sp = s.sp := by
  obtain ⟨hhigh, hlow⟩ := read_pushAddr_pushed h a
  have hsp : (pushAddr a s).sp = s.sp - 1 - 1 := by rw [pushAddr_eq]
  simp only [pullAddr_eq, hsp, sub_add_cancel, hhigh, hlow, mkAddr_bytes, and_self]

/-- What a call leaves: the PC at the routine, and on the stack the return address, the one before the next instruction
(R310). -/
theorem exec_jsrAbs_next {s t : State} {a : Addr} (h : MemoryInv s) (hexec : exec (.jsrAbs a) s = .next t) :
    t.pc = a ∧ t.params = s.params ∧ t.cycles = s.cycles + 6 ∧ (pullAddr t).1 = s.pc - 1 ∧ (pullAddr t).2.sp = s.sp := by
  obtain rfl := Host.Outcome.next.inj hexec
  let t : State := State.addCycles 6 { pushAddr (s.pc - 1) s with pc := a }
  have hkeeps : KeepsReturnAddress (pushAddr (s.pc - 1) s) t := ⟨rfl, rfl, rfl⟩
  obtain ⟨haddr, hsp⟩ := hkeeps.pullAddr_eq
  obtain ⟨hpushed, hpushedSp⟩ := pullAddr_pushAddr h (s.pc - 1)
  exact ⟨rfl, by simp [pushAddr_eq], congrArg (· + 6) (pushAddr_cycles _ s), haddr.trans hpushed, hsp.trans hpushedSp⟩

/-- Settles O21: the forced RTS pulls what JSR pushed, as the callback leaves it in place. -/
theorem trapReturnsAfterCall : Obligations.TrapReturnsAfterCall := by
  intro s t a hinv hcall hrts hcontract
  obtain ⟨hpc, hparams, hcycles, haddr, hsp⟩ := exec_jsrAbs_next hinv hcall
  have hkeeps := keepsReturnAddress_callTrap (memoryInv_exec hinv rfl hcall) a hcontract
  obtain ⟨u, htrap, hupc, husp, hucycles⟩ := kernalTrap_returns (hparams ▸ hrts) hkeeps
  refine ⟨hpc, u, htrap, ?pc, husp.trans hsp, by omega⟩
  case pc => rw [hupc, haddr, sub_add_cancel]

end Sys2Proof.Machine
end

section
/-!
PROOFS. The illegal opcodes (43_illegal.md): what ILLEGAL_SET does to an instruction's meaning, with it that every instruction
completes and that an opcode it leaves out is a no-operation; then the stable illegal opcodes and the jam as next states.
-/

namespace Sys2Proof.Machine

open Sys2Proof.Safety

/-! ## What ILLEGAL_SET does to a meaning (R350, R367) -/

theorem ifInIllegalSet_of_not_contains {op : Byte} {f : State → Result} {s : State}
    (h : s.params.illegalSet.contains op = false) : ifInIllegalSet op f s = .next (undecoded op s) :=
  if_neg (Bool.eq_false_iff.1 h)

theorem unstableOpcode_of_not_contains {op : Byte} {s : State} (h : s.params.illegalSet.contains op = false) :
    unstableOpcode op s = .next (undecoded op s) :=
  if_neg (Bool.eq_false_iff.1 h)

/-- Settles O24: every meaning ends in a next state by itself, an illegal opcode's where ILLEGAL_SET holds it or not; an
unstable opcode is left out of ILLEGAL_SET, so it is undecoded. -/
theorem everyInstructionCompletes : Obligations.EveryInstructionCompletes := by
  intro i s hset
  unfold exec
  cases i with
  | bpl | bmi | bvc | bvs | bcc | bcs | bne | beq => exact ⟨_, branchIf_eq _ _ _⟩
  | sloIzx | sloZp | sloAbs | sloIzy | sloZpx | sloAbsy | sloAbsx | rlaIzx | rlaZp | rlaAbs | rlaIzy | rlaZpx
    | rlaAbsy | rlaAbsx | sreIzx | sreZp | sreAbs | sreIzy | sreZpx | sreAbsy | sreAbsx | rraIzx | rraZp | rraAbs
    | rraIzy | rraZpx | rraAbsy | rraAbsx | dcpIzx | dcpZp | dcpAbs | dcpIzy | dcpZpx | dcpAbsy | dcpAbsx | iscIzx
    | iscZp | iscAbs | iscIzy | iscZpx | iscAbsy | iscAbsx | saxIzx | saxZp | saxAbs | saxZpy | laxIzx | laxZp | laxAbs
    | laxIzy | laxZpy | laxAbsy | ancImm | alrImm | arrImm | sbxImm | usbcImm | nopZp | nopAbs | nopZpx | nopImp
    | nopAbsx | nopImm =>
    exact ifInIllegalSet_next ⟨_, rfl⟩
  | aneImm | lxaImm | shaIzy | shaAbsy | shxAbsy | shyAbsx | tasAbsy | lasAbsy =>
    exact ⟨_, unstableOpcode_of_not_contains (hset (List.contains_iff_mem.1 rfl))⟩
  -- the documented opcodes and the jam, whatever ILLEGAL_SET holds
  | _ => exact ⟨_, rfl⟩

/-! ## Opcodes outside ILLEGAL_SET (R370), unstable ones inside it (R367) -/

/-- The meaning of every row of R352, whatever its operand bytes, asks ILLEGAL_SET for the row's opcode. -/
theorem exec_decodeBytes_stable :
    ∀ op ∈ stableIllegal, ∀ b1 b2, ∃ meaning, ∀ s, exec (decodeBytes op b1 b2) s = ifInIllegalSet op meaning s := by
  unfold stableIllegal illegalShiftOpcodes illegalCountOpcodes illegalMoveOpcodes illegalImmediateOpcodes illegalNopOpcodes
  simp only [List.forall_mem_append, List.forall_mem_cons, List.not_mem_nil, false_implies, implies_true, and_true]
  and_intros <;> exact fun _ _ => ⟨_, fun _ => rfl⟩

/-- The rows of R367. -/
theorem exec_decodeBytes_unstable :
    ∀ op ∈ unstableIllegal, ∀ b1 b2 s, exec (decodeBytes op b1 b2) s = unstableOpcode op s := by
  unfold unstableIllegal
  simp only [List.forall_mem_cons, List.not_mem_nil, false_implies, implies_true, and_true]
  and_intros <;> exact fun _ _ _ => rfl

theorem exec_of_unstable {i : Instr} (hwf : WellFormed i) (hop : opcodeOf i ∈ unstableIllegal) (s : State) :
    exec i s = unstableOpcode (opcodeOf i) s := by
  obtain ⟨op, b1, b2, rfl⟩ := exists_decodeBytes_eq hwf
  rw [opcodeOf_decodeBytes] at hop ⊢
  exact exec_decodeBytes_unstable op hop b1 b2 s

theorem isUndecoded_iff {p : Params} {op : Byte} :
    isUndecoded p op = true ↔ (op ∈ stableIllegal ∨ op ∈ unstableIllegal) ∧ p.illegalSet.contains op = false := by
  simp [isUndecoded, isIllegalOpcode]

theorem exec_of_isUndecoded {i : Instr} {s : State} (hwf : WellFormed i)
    (h : isUndecoded s.params (opcodeOf i) = true) : exec i s = .next (undecoded (opcodeOf i) s) := by
  obtain ⟨hillegal, hset⟩ := isUndecoded_iff.1 h
  rcases hillegal with hstable | hunstable
  · obtain ⟨op, b1, b2, rfl⟩ := exists_decodeBytes_eq hwf
    rw [opcodeOf_decodeBytes] at hstable hset ⊢
    obtain ⟨meaning, hexec⟩ := exec_decodeBytes_stable op hstable b1 b2
    exact (hexec s).trans (ifInIllegalSet_of_not_contains hset)
  · exact (exec_of_unstable hwf hunstable s).trans (unstableOpcode_of_not_contains hset)

/-- The step has fetched the opcode byte alone, so the PC ends UNDECODED_LEN bytes past the opcode's address. -/
theorem undecoded_fetch (op : Byte) (s : State) :
    undecoded op (fetch s).2 =
      { (fetch s).2 with
        pc := BitVec.ofNat 16 (s.pc.toNat + s.params.undecodedLen)
        cycles := s.cycles + s.params.undecodedCycles
        events := .undecoded op :: s.events } := by
  simp [undecoded, State.record, State.addCycles, BitVec.ofNat_add]

theorem default_illegalSet_without_unstable : ∀ op ∈ unstableIllegal, defaultParams.illegalSet.contains op = false :=
  List.forall_iff_forall_mem.1 (by decide)

/-- Settles O25: the no-operation as a meaning, as a step after one fetch, and the stop of the unstable opcodes. -/
theorem opcodesOutsideIllegalSet : Obligations.OpcodesOutsideIllegalSet := by
  refine ⟨⟨rfl, rfl⟩, fun i s hwf h => exec_of_isUndecoded hwf h, ?step, fun i s hwf hop => ⟨?refused, ?default⟩⟩
  case step =>
    intro s hready f h
    have hparams : f.2.params = s.params := by simp [f]
    have hop : opcodeOf (decodeBytes f.1 0 0) = f.1 := opcodeOf_decodeBytes _ _ _
    have hexec := exec_of_isUndecoded (s := f.2) (wellFormed_decodeBytes f.1 0 0) (by rw [hop, hparams]; exact h)
    rw [step_eq_fetchExecute hready, fetchExecute_of_length_one (fetchLength_undecoded h), hexec, hop, undecoded_fetch]
  case refused => exact fun hset => (exec_of_unstable hwf hop s).trans (if_pos hset)
  case default => exact default_illegalSet_without_unstable _ hop

/-! ## Stable illegal opcodes that ILLEGAL_SET holds (R352): the shapes of their meanings as next states -/

theorem does_of_inSet {i : Instr} {op : Byte} {n : Nat} {s : State} (u : State → State) (hop : opcodeOf i = op)
    (hexec : exec i s = ifInIllegalSet op (fun s => complete n (u s)) s) (hcycles : (u s).cycles = s.cycles)
    (hset : InSet s op) : Does i op s { u s with cycles := s.cycles + n } :=
  does_of_complete (u s) hop (hexec.trans (if_pos hset)) hcycles

theorem reads_of_inSet {i : Instr} {op : Byte} {n : Nat} {f : Byte → State → State} {s : State} (e : State → Ea)
    (hf : ∀ v u, (f v u).cycles = u.cycles) (hop : opcodeOf i = op)
    (hexec : exec i s = ifInIllegalSet op (fun s => readThen (e s) n f s) s) (hset : InSet s op) :
    Reads i op (e s) ((e s).cost n) f s :=
  reads_of_readThen hf hop (hexec.trans (if_pos hset)) rfl

theorem writes_of_inSet {i : Instr} {op : Byte} {n : Nat} {s : State} (e : State → Ea) (v : State → Byte)
    (hop : opcodeOf i = op) (hexec : exec i s = ifInIllegalSet op (fun s => storeAt (e s) n (v s) s) s)
    (hset : InSet s op) : Writes i op (e s) n (v s) s :=
  writes_of_storeAt hop (hexec.trans (if_pos hset))

theorem modifies_of_inSet {i : Instr} {op : Byte} {n : Nat} {f : Byte → State → Byte × State}
    {k : Byte → State → State} {r : Byte → Bool → Byte} {g : Byte → Byte → State → State} {fl : Byte → Flags → Flags}
    {s : State} (e : State → Ea) (h : SplitsAroundWrite f k r g fl) (hop : opcodeOf i = op)
    (hexec : exec i s = ifInIllegalSet op (fun s => modifyAt (e s) n f k s) s) (hset : InSet s op) :
    Modifies i op (e s) n r g s :=
  modifies_of_modifyAt h hop (hexec.trans (if_pos hset))

/-- The seven modes of R353 at once, from the opcodes and the meanings. -/
theorem modifiesInSevenModes_of_modifyAt {zp zpx izx izy : Byte → Instr} {abs absx absy : Addr → Instr}
    {oZp oZpx oAbs oAbsx oAbsy oIzx oIzy : Byte} {f : Byte → State → Byte × State} {k : Byte → State → State}
    {r : Byte → Bool → Byte} {g : Byte → Byte → State → State} {fl : Byte → Flags → Flags} {s : State} {b : Byte} {a : Addr}
    (h : SplitsAroundWrite f k r g fl)
    (hops : opcodeOf (zp b) = oZp ∧ opcodeOf (zpx b) = oZpx ∧ opcodeOf (abs a) = oAbs ∧ opcodeOf (absx a) = oAbsx ∧
      opcodeOf (absy a) = oAbsy ∧ opcodeOf (izx b) = oIzx ∧ opcodeOf (izy b) = oIzy)
    (hexec : exec (zp b) s = ifInIllegalSet oZp (fun s => modifyAt (eaZp b) 5 f k s) s ∧
      exec (zpx b) s = ifInIllegalSet oZpx (fun s => modifyAt (eaZpx b s) 6 f k s) s ∧
      exec (abs a) s = ifInIllegalSet oAbs (fun s => modifyAt (eaAbs a) 6 f k s) s ∧
      exec (absx a) s = ifInIllegalSet oAbsx (fun s => modifyAt (eaAbsx a s) 7 f k s) s ∧
      exec (absy a) s = ifInIllegalSet oAbsy (fun s => modifyAt (eaAbsy a s) 7 f k s) s ∧
      exec (izx b) s = ifInIllegalSet oIzx (fun s => modifyAt (eaIzx b s) 8 f k s) s ∧
      exec (izy b) s = ifInIllegalSet oIzy (fun s => modifyAt (eaIzy b s) 8 f k s) s) :
    ModifiesInSevenModes zp zpx abs absx absy izx izy oZp oZpx oAbs oAbsx oAbsy oIzx oIzy r g s b a := by
  obtain ⟨oz, ozx, oa, oax, oay, oix, oiy⟩ := hops
  obtain ⟨ez, ezx, ea, eax, eay, eix, eiy⟩ := hexec
  exact ⟨modifies_of_inSet (fun _ => eaZp b) h oz ez, modifies_of_inSet (eaZpx b) h ozx ezx,
    modifies_of_inSet (fun _ => eaAbs a) h oa ea, modifies_of_inSet (eaAbsx a) h oax eax,
    modifies_of_inSet (eaAbsy a) h oay eay, modifies_of_inSet (eaIzx b) h oix eix, modifies_of_inSet (eaIzy b) h oiy eiy⟩

/-! ## SLO, RLA, SRE, RRA, DCP, ISC (R353 to R356, R359, R360) -/

/-- A shift or rotate sets its flags before the write, and `k` acts on them after it. -/
theorem shiftThen_splitsAroundWrite {f : Byte → State → Byte × State} {k : Byte → State → State} {r : Byte → Bool → Byte}
    {g : Byte → Byte → State → State} (j : Nat)
    (hf : ∀ v u, f v u = (r v u.flags.c, { u with flags := shiftFlags j v (r v u.flags.c) u.flags }))
    (hk : ∀ old new u, k new { u with flags := shiftFlags j old new u.flags } = g old new u)
    (hcycles : ∀ old new u, (g old new u).cycles = u.cycles) :
    SplitsAroundWrite f k r g (fun v fs => shiftFlags j v (r v fs.c) fs) :=
  ⟨hf, fun _ _ => hk _ _ _, hcycles⟩

/-- A count sets no flag before the write, and `k` acts after it. -/
theorem countThen_splitsAroundWrite {f : Byte → State → Byte × State} {k : Byte → State → State} {r : Byte → Bool → Byte}
    (hf : ∀ v u, f v u = (r v u.flags.c, u)) (hcycles : ∀ new u, (k new u).cycles = u.cycles) :
    SplitsAroundWrite f k r (fun _ new u => k new u) (fun _ fs => fs) :=
  ⟨hf, fun _ _ => rfl, fun _ _ _ => hcycles _ _⟩

/-- Addition sets N and Z itself, so of a rotate's flags it sees the carry alone. -/
theorem addWithCarry_shiftFlags (j : Nat) (old new : Byte) (s : State) :
    addWithCarry new { s with flags := shiftFlags j old new s.flags } =
      addWithCarry new { s with flags := { s.flags with c := old.getLsbD j } } := by
  have hd : (shiftFlags j old new s.flags).d = s.flags.d := rfl
  simp only [addWithCarry, hd]
  split <;> rfl

/-- Settles O39: each family is a shift or a count, and then A's operation after the write. -/
theorem illegalReadModifyWrite : Obligations.IllegalReadModifyWrite := by
  unfold Obligations.IllegalReadModifyWrite
  intro carry adc sbc s b a
  refine ⟨?slo, ?rla, ?sre, ?rra, ?dcp, ?isc⟩
  case slo | rla =>
    exact modifiesInSevenModes_of_modifyAt
      (shiftThen_splitsAroundWrite 7 (fun _ _ => rfl) (fun _ _ _ => rfl) (fun _ _ _ => rfl))
      (by and_intros <;> rfl) (by and_intros <;> rfl)
  case sre =>
    exact modifiesInSevenModes_of_modifyAt
      (shiftThen_splitsAroundWrite 0 (fun _ _ => rfl) (fun _ _ _ => rfl) (fun _ _ _ => rfl))
      (by and_intros <;> rfl) (by and_intros <;> rfl)
  case rra =>
    have hadc : adc = addWithCarry := addWithCarry_eq.symm
    rw [hadc]
    exact modifiesInSevenModes_of_modifyAt
      (shiftThen_splitsAroundWrite 0 (fun _ _ => rfl) (addWithCarry_shiftFlags 0) (fun _ _ _ => addWithCarry_cycles _ _))
      (by and_intros <;> rfl) (by and_intros <;> rfl)
  case dcp =>
    exact modifiesInSevenModes_of_modifyAt (countThen_splitsAroundWrite (k := compareA) (fun _ _ => rfl) (fun _ _ => rfl))
      (by and_intros <;> rfl) (by and_intros <;> rfl)
  case isc =>
    have hsbc : sbc = subtractWithBorrow := subtractWithBorrow_eq.symm
    rw [hsbc]
    exact modifiesInSevenModes_of_modifyAt (countThen_splitsAroundWrite (fun _ _ => rfl) subtractWithBorrow_cycles)
      (by and_intros <;> rfl) (by and_intros <;> rfl)

/-! ## SAX, LAX and the immediates (R357, R358, R361 to R365) -/

theorem andRotateRight_of_not_d {s : State} (m : Byte) (h : s.flags.d = false) : andRotateRight m s = arrBinary m s :=
  if_neg (Bool.eq_false_iff.1 h)

theorem andRotateRight_of_d {s : State} (m : Byte) (h : s.flags.d = true) : andRotateRight m s = arrDecimal m s :=
  if_pos h

/-- The difference modulo 256, as R364 writes it. -/
theorem byte_ofInt_sub (v m : Byte) : BitVec.ofInt 8 ((v.toNat : Int) - m.toNat) = v - m := by
  rw [Int.sub_eq_add_neg, BitVec.ofInt_add, BitVec.ofInt_neg, BitVec.ofInt_natCast, BitVec.ofInt_natCast,
    BitVec.ofNat_toNat, BitVec.ofNat_toNat, BitVec.setWidth_eq, BitVec.setWidth_eq, BitVec.sub_eq_add_neg]

/-- Settles O40: where ILLEGAL_SET holds the opcode, each meaning is a write, a read or a register operation. -/
theorem illegalMovesAndImmediates : Obligations.IllegalMovesAndImmediates := by
  intro s b a lax t c7 ror fix high
  have hlax : ∀ v u, (lax v u).cycles = u.cycles := fun _ _ => rfl
  let ax : State → Byte := fun s => s.a &&& s.x
  refine ⟨writes_of_inSet (fun _ => eaZp b) ax rfl rfl, writes_of_inSet (eaZpy b) ax rfl rfl,
    writes_of_inSet (fun _ => eaAbs a) ax rfl rfl, writes_of_inSet (eaIzx b) ax rfl rfl,
    reads_of_inSet (fun _ => eaZp b) hlax rfl rfl, reads_of_inSet (eaZpy b) hlax rfl rfl,
    reads_of_inSet (fun _ => eaAbs a) hlax rfl rfl, reads_of_inSet (eaAbsy a) hlax rfl rfl,
    reads_of_inSet (eaIzx b) hlax rfl rfl, reads_of_inSet (eaIzy b) hlax rfl rfl,
    ?anc, ?alr, ?arrBinary, ?arrDecimal, ?sbx, ?usbc⟩
  case anc => exact fun op _ => does_of_inSet (andCopyN b) rfl rfl rfl
  case alr => exact does_of_inSet (andShiftRight b) rfl rfl rfl
  case arrBinary =>
    intro hset hd
    have harr := andRotateRight_of_not_d b hd
    have hdoes := does_of_inSet (i := .arrImm b) (andRotateRight b) rfl rfl (harr ▸ rfl) hset
    rwa [harr] at hdoes
  case arrDecimal =>
    intro hset hd
    have harr := andRotateRight_of_d b hd
    have hdoes := does_of_inSet (i := .arrImm b) (andRotateRight b) rfl rfl (harr ▸ rfl) hset
    have hhigh : (if high then fix + 0x60 else fix) = if arrHigh t then fix + 0x60 else fix :=
      if_congr decide_eq_true_iff.symm rfl rfl
    rw [harr] at hdoes
    rwa [hhigh]
  case sbx =>
    have hcarry : 0 ≤ ((s.a &&& s.x).toNat : Int) - b.toNat ↔ b ≤ s.a &&& s.x := by
      rw [Int.sub_nonneg, Int.ofNat_le, BitVec.le_def]
    rw [byte_ofInt_sub, decide_eq_decide.2 hcarry]
    exact does_of_inSet (subtractFromAX b) rfl rfl rfl
  case usbc =>
    have hdoes := does_of_inSet (i := .usbcImm b) (subtractWithBorrow b) rfl rfl (subtractWithBorrow_cycles b s)
    rwa [congrFun (congrFun subtractWithBorrow_eq b) s] at hdoes

/-! ## The illegal NOPs and the jam (R351, R366) -/

theorem nop_of_inSet {i : Instr} {op : Byte} {s : State} (n : State → Nat) (hop : opcodeOf i = op)
    (hexec : exec i s = ifInIllegalSet op (fun s => complete (n s) s) s) (hset : InSet s op) :
    Does i op s { s with cycles := s.cycles + n s } :=
  does_of_complete s hop (hexec.trans (if_pos hset)) rfl

/-- Settles O41: a NOP's meaning is its cost alone, and the jam's is its next state. -/
theorem illegalNopsAndJam : Obligations.IllegalNopsAndJam :=
  ⟨rfl, fun _ _ a =>
    ⟨fun _ _ => nop_of_inSet (fun _ => 2) rfl rfl, fun _ _ => nop_of_inSet (fun _ => 2) rfl rfl,
      fun _ _ => nop_of_inSet (fun _ => 3) rfl rfl, fun _ _ => nop_of_inSet (fun _ => 4) rfl rfl,
      nop_of_inSet (fun _ => 4) rfl rfl, fun _ _ => nop_of_inSet (fun s => (eaAbsx a s).cost 4) rfl rfl,
      fun _ _ => ⟨rfl, rfl⟩⟩⟩

end Sys2Proof.Machine
end

section
/-!
PROOFS. The CPU's step (60_exceptions.md): which of its transitions comes first, what the reset, an interrupt entry and the
kernal trap do, what a step costs, and that a jammed CPU is frozen until a reset is asked for.
-/

namespace Sys2Proof.Machine

open Sys2Proof.Safety

/-! ## Priority (R412) -/

theorem cpuStep_of_reset {s : State} (hreset : s.resetPending = true) : cpuStep s = .next (doReset s) :=
  if_pos hreset

theorem cpuStep_of_jammed {s : State} (hreset : s.resetPending = false) (hmode : s.mode = .jammed) :
    cpuStep s = .next (jammedIdle s) := by
  simp [cpuStep, hreset, hmode]

theorem cpuStep_of_running {s : State} (hreset : s.resetPending = false) (hmode : s.mode = .running) :
    cpuStep s = runningStep s := by
  simp [cpuStep, hreset, hmode]

theorem runningStep_of_nmi {s : State} (hnmi : s.nmiPending = true) :
    runningStep s = .next (enterInterrupt s.params.vecNmi .nmi { s with nmiPending := false, irqPending := false }) :=
  if_pos hnmi

theorem runningStep_of_irq {s : State} (hnmi : s.nmiPending = false) (hirq : s.irqPending = true)
    (hi : s.flags.i = false) :
    runningStep s = .next (enterInterrupt s.params.vecIrq .irq { s with irqPending := false }) := by
  simp [runningStep, hnmi, hirq, hi]

theorem runningStep_of_no_interrupt {s : State} (hnmi : s.nmiPending = false)
    (hirq : s.irqPending = false ∨ s.flags.i = true) : runningStep s = trapOrExecute { s with irqPending := false } := by
  have hnotTaken : (s.irqPending && !s.flags.i) = false := by rcases hirq with h | h <;> simp [h]
  simp [runningStep, hnmi, hnotTaken]

theorem inTrapWindow_iff (p : Params) (pc : Addr) :
    inTrapWindow p pc = true ↔ ∃ w ∈ p.trapWindow, w.1 ≤ pc ∧ pc ≤ w.2 := by
  simp [inTrapWindow]

theorem cpuStep_eq_kernalTrap {s : State} (hreset : s.resetPending = false) (hmode : s.mode = .running)
    (hnmi : s.nmiPending = false) (hirq : s.irqPending = false ∨ s.flags.i = true)
    (hwin : inTrapWindow s.params s.pc = true) : cpuStep s = kernalTrap s.pc { s with irqPending := false } := by
  rw [cpuStep_of_running hreset hmode, runningStep_of_no_interrupt hnmi hirq]
  exact if_pos hwin

/-- Settles O15: one lemma for each transition, in the order of R412. -/
theorem stepPriority : Obligations.StepPriority := by
  intro s inWindow
  have hwindow : inTrapWindow s.params s.pc = true ↔ inWindow := inTrapWindow_iff s.params s.pc
  refine ⟨cpuStep_of_reset, cpuStep_of_jammed, fun hreset hmode => ?running⟩
  refine ⟨fun hnmi => ?nmi, fun hnmi => ⟨fun hirq hi => ?irq, fun hirq => ⟨fun hin => ?trap, fun hout => ?execute⟩⟩⟩
  case nmi => exact (cpuStep_of_running hreset hmode).trans (runningStep_of_nmi hnmi)
  case irq => exact (cpuStep_of_running hreset hmode).trans (runningStep_of_irq hnmi hirq hi)
  case trap => exact cpuStep_eq_kernalTrap hreset hmode hnmi hirq (hwindow.2 hin)
  case execute => exact cpuStep_eq_fetchExecute hreset hmode hnmi hirq (Bool.eq_false_iff.2 (mt hwindow.1 hout))

/-! ## Reset (R402) -/

/-- The reset step in the words of R402, wherever its vector stands. -/
theorem doReset_eq_read (s : State) :
    let u := setI { s with resetPending := false, nmiPending := false, irqPending := false }
    let v := memRead16 s.params.vecReset u
    doReset s =
      { v.2 with
        pc := v.1
        mode := .running
        cycles := s.cycles + s.params.resetCycles
        events := .reset :: s.events } := by
  intro u v
  have hcycles : v.2.cycles = s.cycles := by simp [v, u]
  have hevents : v.2.events = s.events := by simp [v, u]
  have hparams : v.2.params = s.params := by simp [v, u]
  rw [← hcycles, ← hevents, ← hparams]
  rfl

/-- Settles O16: a vector in RAM is read without an effect. -/
theorem resetStep : Obligations.ResetStep := by
  refine ⟨rfl, fun _ => rfl, fun s hreset => ?_⟩
  intro u v
  refine ⟨?step, fun hvec => ?inRam⟩
  case step =>
    rw [cpuStep_of_reset hreset]
    exact congrArg Host.Outcome.next (doReset_eq_read s)
  case inRam =>
    have hvecU : InRam s.params.vecReset u := hvec
    exact congrArg Prod.snd (memRead16_inRam hvecU)

/-! ## An interrupt entry (R408) -/

/-- A read neither looks at the flags nor changes them. -/
theorem memRead_withFlags (a : Addr) (s : State) (f : Flags) :
    memRead a { s with flags := f } = ((memRead a s).1, { (memRead a s).2 with flags := f }) := by
  have hio : isIO a { s with flags := f } = isIO a s := rfl
  cases h : isIO a s
  case false => rw [memRead_ram h, memRead_ram (hio.trans h)]
  case true =>
    cases hc : s.params.readCallback
    case absent => rw [memRead_absent h hc, memRead_absent (hio.trans h) hc]
    case host => rw [memRead_host h hc, memRead_host (hio.trans h) hc]
    case block =>
      simp only [memRead, hio, h, if_true, interceptRead, hc]
      unfold readIntercept
      split_ifs <;> rfl

theorem memRead16_withFlags (a : Addr) (s : State) (f : Flags) :
    memRead16 a { s with flags := f } = ((memRead16 a s).1, { (memRead16 a s).2 with flags := f }) := by
  simp only [memRead16, memRead_withFlags]

/-- All that a read can change: what an input port's draw, the timer flag's clearing and a host's answer do. -/
theorem memRead_state_eq (a : Addr) (s : State) :
    let t := (memRead a s).2
    t = { s with draws := t.draws, timerLatched := t.timerLatched, resetPending := t.resetPending } := by
  rcases memRead_state a s with h | h | h | ⟨-, h⟩ <;> simp only [h]

theorem memRead16_state_eq (a : Addr) (s : State) :
    let t := (memRead16 a s).2
    t = { s with draws := t.draws, timerLatched := t.timerLatched, resetPending := t.resetPending } := by
  simpa [memRead16] using memRead_state_eq (a + 1) (memRead a s).2

/-- Taking an interrupt, all of it, wherever the vector stands: the reads of the vector may have their effects (R84). -/
theorem takeInterrupt_eq_read (vec ret : Addr) (p : Byte) (ev : Addr → Byte → Event) (cost : Nat) (s : State) :
    let v := memRead16 vec (push p (push (loByte ret) (push (hiByte ret) s)))
    takeInterrupt vec ret p ev cost s =
      { s with
        ram := ramAfterEntry ret p s
        sp := s.sp - 1 - 1 - 1
        flags := { s.flags with i := true }
        pc := v.1
        cycles := s.cycles + cost
        events := ev ret p :: s.events
        draws := v.2.draws
        timerLatched := v.2.timerLatched
        resetPending := v.2.resetPending } := by
  intro v
  have hv : v.2 = _ := memRead16_state_eq vec _
  rw [takeInterrupt_eq_pushes, memRead16_withFlags, hv]
  simp [push_eq, ramAfterEntry, v]

/-- Settles O18: from the three pushes and the two reads of the vector, which have no effect where it is in RAM. -/
theorem interruptEntry : Obligations.InterruptEntry := by
  have hdefault (s : State) : InRam defaultParams.vecNmi s ∧ InRam defaultParams.vecIrq s := by
    obtain ⟨hnmi, -, hirq⟩ := inRam_default s
    exact ⟨hnmi, hirq⟩
  refine ⟨rfl, hdefault, fun s vec ev hinv => ?_⟩
  intro u t cleared
  have htwo : s.sp - 1 - 1 = s.sp - 2 := by bv_omega
  have hthree : s.sp - 1 - 1 - 1 = s.sp - 3 := by bv_omega
  have hram : t.ram = ramAfterEntry s.pc (getP s.flags &&& 0xEF) s := takeInterrupt_ram _ _ _ _ _ _
  obtain ⟨hhigh, hlow, hstatus⟩ := read_ramAfterEntry_pushed hinv s.pc (getP s.flags &&& 0xEF)
  have hother := fun k => read_ramAfterEntry hinv s.pc (getP s.flags &&& 0xEF) (k := k)
  rw [← hram, htwo] at hstatus hother
  rw [← hram] at hhigh hlow
  have ht : t = _ := takeInterrupt_eq_read vec s.pc (getP s.flags &&& 0xEF) ev s.params.intCycles s
  refine ⟨hhigh, hlow, hstatus, hother, ?_, ?_, ?_, ?_, ?_, ?_, fun hvec => ?inRam⟩
  case inRam =>
    have hall : t = _ := takeInterrupt_eq (inRam_ramAfterEntry hinv _ _ hvec) ev s.params.intCycles
    simp only [cleared, hall]
  all_goals simp only [cleared, ht, hthree, u]

/-! ## The kernal trap (R418) -/

theorem callTrap_pc (a : Addr) (s : State) : (callTrap a s).pc = s.pc := by
  unfold callTrap
  split <;> rfl

theorem callTrap_events (a : Addr) (s : State) : (callTrap a s).events = s.events := by
  unfold callTrap
  split <;> rfl

/-- The forced RTS with its 6 cycles (R418). -/
theorem kernalTrap_of_rts {s : State} (hrts : s.params.trapReturnOpcode = 0x60) (a : Addr) :
    let lo := pull (callTrap a s)
    let hi := pull lo.2
    kernalTrap a s =
      .next { hi.2 with pc := mkAddr lo.1 hi.1 + 1, cycles := s.cycles + 6, events := .trap a :: s.events } := by
  have hdec : decode [s.params.trapReturnOpcode] = .ok (.rts, []) := hrts ▸ rfl
  have hexec (u : State) : exec .rts u = .next ((returnFromSubroutine u).addCycles 6) := rfl
  rw [kernalTrap_of_decode hdec, ← callTrap_cycles a s, ← callTrap_events a s, hexec, returnFromSubroutine_eq]
  simp only [pull_eq]
  rfl

/-- Settles O20: the trap is the last of the step's priorities before the instruction, and its return opcode is decoded. -/
theorem kernalTrap_fires_and_returns : Obligations.KernalTrap := by
  refine ⟨⟨rfl, rfl⟩, fun s hreset hmode hnmi hirq hwin => ?step, fun a s => ⟨fun hrts => ?rts, fun i hdec => ?decoded⟩⟩
  case step => exact cpuStep_eq_kernalTrap hreset hmode hnmi hirq ((inTrapWindow_iff _ _).2 hwin)
  case rts => exact kernalTrap_of_rts hrts a
  case decoded =>
    rw [kernalTrap_of_decode hdec, ← callTrap_pc a s, ← callTrap_events a s]
    rfl

/-! ## What a step costs (R406, R453, R620) -/

/-- What a step may cost: one to eight cycles, or a parameter that is a step's cost. -/
def StepCost (p : Params) (n : Nat) : Prop :=
  1 ≤ n ∧ n ≤ 8 ∨ n ∈ [p.resetCycles, p.intCycles, p.undecodedCycles, p.jamCycles, p.jamStepCycles]

theorem StepCost.pos {p : Params} {n : Nat} (h : StepCost p n) (hp : StepsCost p) : 0 < n := by
  obtain ⟨hreset, hint, hundecoded, hjam, hidle⟩ := hp
  obtain ⟨hn, -⟩ | hn := h
  · exact hn
  · have hall : ∀ m ∈ [p.resetCycles, p.intCycles, p.undecodedCycles, p.jamCycles, p.jamStepCycles], 0 < m := by
      simp [hreset, hint, hundecoded, hjam, hidle]
    exact hall n hn

theorem StepCost.le_stepBound {p : Params} {n : Nat} (h : StepCost p n) : n ≤ stepBound p := by
  simp only [StepCost, List.mem_cons, List.not_mem_nil, or_false] at h
  simp only [stepBound, List.foldl_cons, List.foldl_nil]
  omega

theorem InstrCost.stepCost {p : Params} {n : Nat} (h : InstrCost p n) : StepCost p n :=
  h.imp_right fun hn => by simp [hn]

/-- What no fetch and no trap callback changes: the cycle count, the IRQ line and the configuration. -/
def clockPart (s : State) : Nat × Bool × Params := (s.cycles, s.irqPending, s.params)

/-- From `s` to `t` a step's cost was spent, and the IRQ line is as it was. -/
def Spends (s t : State) : Prop :=
  t.irqPending = s.irqPending ∧ ∃ n, StepCost s.params n ∧ t.cycles = s.cycles + n

theorem Spends.of_clockPart_eq {s u t : State} (h : Spends u t) (hu : clockPart u = clockPart s) : Spends s t := by
  simp only [clockPart, Prod.mk.injEq] at hu
  obtain ⟨hcycles, hirq, hparams⟩ := hu
  rwa [Spends, hcycles, hirq, hparams] at h

theorem exec_spends {i : Instr} {s t : State} (hwf : WellFormed i) (hexec : exec i s = .next t) : Spends s t := by
  cases exec_completesIn i s hwf t hexec with
  | @decoded u n hrun hcost =>
    have hpart := hrun.machineKept.part
    simp only [machinePart, Prod.mk.injEq] at hpart
    obtain ⟨⟨-, hirq, -⟩, -, -, -, -, hcycles⟩ := hpart
    exact ⟨hirq, n, hcost.stepCost, congrArg (· + n) hcycles⟩
  | undecoded => exact ⟨rfl, s.params.undecodedCycles, .inr (by simp), rfl⟩

theorem clockPart_fetch (s : State) : clockPart (fetch s).2 = clockPart s := by
  simp [clockPart]

theorem clockPart_fetchIf (wanted : Bool) (s : State) : clockPart (fetchIf wanted s).2 = clockPart s := by
  cases wanted
  case false => rfl
  case true => exact clockPart_fetch s

theorem clockPart_callTrap (a : Addr) (s : State) : clockPart (callTrap a s) = clockPart s := by
  unfold callTrap
  split <;> rfl

theorem exec_fetchOperands_spends {op : Byte} {s t : State}
    (hexec : exec (fetchOperands op s).1 (fetchOperands op s).2 = .next t) : Spends s t :=
  (exec_spends (wellFormed_decodeBytes _ _ _) hexec).of_clockPart_eq
    ((clockPart_fetchIf _ _).trans (clockPart_fetchIf _ _))

theorem fetchExecute_spends {s t : State} (hstep : fetchExecute s = .next t) : Spends s t :=
  (exec_fetchOperands_spends hstep).of_clockPart_eq (clockPart_fetch s)

theorem kernalTrap_spends {a : Addr} {s t : State} (hstep : kernalTrap a s = .next t) : Spends s t :=
  (exec_fetchOperands_spends hstep).of_clockPart_eq (clockPart_callTrap a s)

theorem trapOrExecute_spends {s t : State} (hstep : trapOrExecute s = .next t) : Spends s t := by
  unfold trapOrExecute at hstep
  split at hstep
  · exact kernalTrap_spends hstep
  · exact fetchExecute_spends hstep

theorem enterInterrupt_spends (vec : Addr) (ev : Addr → Byte → Event) (s : State) :
    Spends s (enterInterrupt vec ev s) := by
  rw [enterInterrupt, takeInterrupt_eq_read]
  exact ⟨rfl, s.params.intCycles, .inr (by simp), rfl⟩

theorem doReset_spends (s : State) : Spends { s with irqPending := false } (doReset s) := by
  rw [doReset_eq_read]
  exact ⟨by simp, s.params.resetCycles, .inr (by simp), rfl⟩

theorem runningStep_spends {s t : State} (hstep : runningStep s = .next t) : Spends { s with irqPending := false } t := by
  unfold runningStep at hstep
  split at hstep
  · obtain rfl := Host.Outcome.next.inj hstep
    exact (enterInterrupt_spends _ _ _).of_clockPart_eq rfl
  · split at hstep
    · obtain rfl := Host.Outcome.next.inj hstep
      exact enterInterrupt_spends _ _ _
    · exact trapOrExecute_spends hstep

/-- Every transition of the CPU spends a step's cost, and withdraws the IRQ request (R406, R453). -/
theorem cpuStep_spends {s t : State} (hstep : cpuStep s = .next t) : Spends { s with irqPending := false } t := by
  unfold cpuStep at hstep
  split at hstep
  · obtain rfl := Host.Outcome.next.inj hstep
    exact doReset_spends s
  · split at hstep
    · obtain rfl := Host.Outcome.next.inj hstep
      exact ⟨rfl, s.params.jamStepCycles, .inr (by simp), rfl⟩
    · exact runningStep_spends hstep

/-- Settles O23: a step spends a cost, whose bounds are those of the list of costs. -/
theorem cpuStepCosts : Obligations.CpuStepCosts := by
  refine ⟨⟨by unfold StepsCost; decide, rfl⟩, fun s t hstep => ?_⟩
  obtain ⟨hirq, n, hcost, hcycles⟩ := cpuStep_spends hstep
  have hbound := hcost.le_stepBound
  dsimp only at hcost hcycles hbound
  exact ⟨fun hp => hcycles ▸ Nat.lt_add_of_pos_right (hcost.pos hp), by omega, hirq⟩

/-! ## The jammed CPU (R416, R417) -/

/-- What is frozen in a jammed CPU: mode, registers, flags and both memories. -/
def frozenPart (s : State) : (CpuMode × Byte × Byte × Byte × Byte × Addr × Flags) × (Memory × Memory) :=
  ((s.mode, s.a, s.x, s.y, s.sp, s.pc, s.flags), (s.ram, s.shadow))

/-- The boot step either does nothing or asks for a reset (R470). -/
theorem loadImage_eq_or_reset (file : Option (List Byte)) (s : State) :
    loadImage file s = s ∨ (loadImage file s).resetPending = true := by
  unfold loadImage
  split
  · exact .inr rfl
  · exact .inl rfl

/-- An action of the host changes nothing of the CPU and the memories, or asks for a reset. -/
theorem applyAction_frozen_or_reset (act : HostAction) (s : State) :
    frozenPart (applyAction act s) = frozenPart s ∨ (applyAction act s).resetPending = true := by
  cases act with
  | loadImage file => exact (loadImage_eq_or_reset file s).imp_left (congrArg frozenPart)
  | pause | requestReset | requestNmi | driveIrq | requestFrame | consume => exact .inl rfl

theorem applyAction_keeps_reset (act : HostAction) {s : State} (h : s.resetPending = true) :
    (applyAction act s).resetPending = true := by
  cases act with
  | loadImage file =>
    obtain hsame | hreset := loadImage_eq_or_reset file s
    · exact (congrArg State.resetPending hsame).trans h
    · exact hreset
  | requestReset => rfl
  | pause | requestNmi | driveIrq | requestFrame | consume => exact h

theorem takeListed_keeps_reset (acts : List HostAction) {s : State} (h : s.resetPending = true) :
    (takeListed acts s).resetPending = true := by
  induction acts generalizing s with
  | nil => exact h
  | cons act acts ih =>
    cases act
    case pause => exact h
    all_goals exact ih (applyAction_keeps_reset _ h)

/-- No action of the host withdraws a reset request, so where none is pending at the end none was made on the way. -/
theorem takeListed_frozen (acts : List HostAction) {s : State} (h : (takeListed acts s).resetPending = false) :
    frozenPart (takeListed acts s) = frozenPart s := by
  induction acts generalizing s with
  | nil => rfl
  | cons act acts ih =>
    cases act
    case pause => rfl
    all_goals
      have hnone := mt (takeListed_keeps_reset acts) (Bool.eq_false_iff.1 h)
      exact (ih h).trans ((applyAction_frozen_or_reset _ s).resolve_right hnone)

theorem frozenPart_beginLine (n : Nat) (s : State) : frozenPart (beginLine n s) = frozenPart s := by
  have hcheck : frozenPart (rasterCheck { s with line := n }) = frozenPart s := by
    unfold rasterCheck
    split <;> rfl
  have htimer : frozenPart (timerLine (rasterCheck { s with line := n })) =
      frozenPart (rasterCheck { s with line := n }) := by
    unfold timerLine
    split <;> rfl
  exact htimer.trans hcheck

/-- Whatever the block does in a step, it leaves a jammed CPU and the memories alone. -/
theorem blockStep_frozen {s t : State} (hmode : s.mode = .jammed) (hreset : s.resetPending = false)
    (hstep : blockStep s = .next t) : frozenPart t = frozenPart s := by
  unfold blockStep at hstep
  split at hstep
  case h_1 =>
    split at hstep
    · rw [cpuStep_of_jammed hreset hmode] at hstep
      cases hstep
      rfl
    · cases hstep
      rfl
  case h_2 =>
    cases hstep
    exact frozenPart_beginLine _ s
  case h_3 =>
    split at hstep
    · rw [cpuStep_of_jammed (s := driveIrqLine s) hreset hmode] at hstep
      cases hstep
      rfl
    · cases hstep
      rfl
  case h_4 =>
    cases hstep
    rfl

/-- Settles O22: neither the host's actions nor the block's touch what is frozen. -/
theorem jammedStays : Obligations.JammedStays := by
  intro s t hmode hreset hstep
  have htaken : frozenPart (takeActions s) = frozenPart s := takeListed_frozen s.hostActions hreset
  have hjammed : (takeActions s).mode = .jammed := (congrArg (·.1.1) htaken).trans hmode
  have hkept := (blockStep_frozen hjammed hreset hstep).trans htaken
  simp only [frozenPart, Prod.mk.injEq] at hkept
  obtain ⟨⟨hmode', ha, hx, hy, hsp, hpc, hflags⟩, hram, hshadow⟩ := hkept
  exact ⟨hmode'.trans hmode, ha, hx, hy, hsp, hpc, hflags, hram, hshadow⟩

end Sys2Proof.Machine
end

section
/-!
PROOFS. A line's start: the raster compare with its nine-bit target (R454), and the countdown and reloads of the CIA timer
(R460).
-/

namespace Sys2Proof.Machine

open Sys2Proof.Safety

/-! ## The raster compare (R454) -/

/-- The target in the words of R454: the low byte, with bit 7 of the control byte as bit 8. -/
theorem rasterTarget_eq_or (sh : Memory) :
    rasterTarget sh = (sh.read 0x012).toNat ||| (((sh.read 0x011).toNat &&& 0x80) <<< 1) := by
  have hmask : (sh.read 0x011).toNat &&& 0x80 = ((sh.read 0x011).toNat.testBit 7).toNat * 128 := Nat.and_two_pow _ 7
  rw [hmask, rasterTarget, BitVec.getLsbD]
  cases (sh.read 0x011).toNat.testBit 7
  case false => exact (Nat.or_zero _).symm
  case true =>
    have hlow : (sh.read 0x012).toNat < 2 ^ 8 := (sh.read 0x012).isLt
    have hsum : 1 <<< 8 + (sh.read 0x012).toNat = 1 <<< 8 ||| (sh.read 0x012).toNat := Nat.shiftLeft_add_eq_or_of_lt hlow 1
    exact (Nat.add_comm _ _).trans (hsum.trans (Nat.lor_comm _ _))

/-- All that the raster check does (R454). -/
theorem rasterCheck_eq (s : State) :
    rasterCheck s =
      { s with
        rasterLatched :=
          s.rasterLatched || ((s.shadow.read 0x01A).getLsbD 0 && decide (s.line = rasterTarget s.shadow)) } := by
  unfold rasterCheck
  split
  case isTrue h => simp only [h, Bool.or_true]
  case isFalse h => simp only [Bool.eq_false_iff.2 h, Bool.or_false]

/-! ## The CIA timer (R460) -/

/-- The reload loop adds the latch plus one some number of times, no more often than it takes, and with fuel enough as often
as it takes. -/
theorem reloadTimer_eq (latch fuel : Nat) (c : Int) :
    ∃ k : Nat, reloadTimer latch fuel c = c + k * ((latch : Int) + 1) ∧
      (-c ≤ fuel → 0 ≤ c + k * ((latch : Int) + 1)) ∧ (k ≠ 0 → c + (k - 1) * ((latch : Int) + 1) < 0) := by
  induction fuel generalizing c with
  | zero => exact ⟨0, by simp [reloadTimer], fun h => by simpa using h, fun h => absurd rfl h⟩
  | succ fuel ih =>
    by_cases hc : c < 0
    case neg => exact ⟨0, by simp [reloadTimer, hc], fun _ => by simpa using hc, fun h => absurd rfl h⟩
    case pos =>
      obtain ⟨k, heq, henough, hleast⟩ := ih (c + latch + 1)
      have hsum : c + ((k + 1 : Nat) : Int) * ((latch : Int) + 1) = c + latch + 1 + k * ((latch : Int) + 1) := by
        push_cast
        ring
      refine ⟨k + 1, ?_, fun h => ?_, fun _ => ?_⟩
      · rw [reloadTimer, if_pos hc, heq, hsum]
      · rw [hsum]
        exact henough (by omega)
      · obtain rfl | hk := Nat.eq_zero_or_pos k
        · simpa using hc
        · have hprev : c + (((k + 1 : Nat) : Int) - 1) * ((latch : Int) + 1) =
              c + latch + 1 + (k - 1) * ((latch : Int) + 1) := by
            push_cast
            ring
          rw [hprev]
          exact hleast hk.ne'

theorem timerLine_of_stopped {s : State} (h : (s.shadow.read 0xC0E).getLsbD 0 = false) : timerLine s = s := by
  rw [timerLine, h]
  rfl

theorem timerLine_of_running {s : State} (h : (s.shadow.read 0xC0E).getLsbD 0 = true) :
    let c := s.timerCounter - (s.params.cyclesPerLine : Int)
    timerLine s =
      { s with
        timerCounter := reloadTimer s.timerLatch.toNat (-c).toNat c
        timerLatched :=
          s.timerLatched || (decide (s.timerCounter < s.params.cyclesPerLine) && s.icrMask.getLsbD 0) } := by
  simp only [timerLine, h, if_true, sub_neg]

/-- All that the timer's turn at a line's start changes: the counter, and the flag where a running timer goes below zero and
the mask allows it (R460). -/
theorem timerLine_eq (s : State) :
    timerLine s =
      { s with
        timerCounter := (timerLine s).timerCounter
        timerLatched := s.timerLatched || ((s.shadow.read 0xC0E).getLsbD 0 &&
          (decide (s.timerCounter < s.params.cyclesPerLine) && s.icrMask.getLsbD 0)) } := by
  cases hrun : (s.shadow.read 0xC0E).getLsbD 0
  case false => simp only [timerLine_of_stopped hrun, Bool.false_and, Bool.or_false]
  case true => simp only [timerLine_of_running hrun, Bool.true_and]

/-- Settles O49: the counter is the reload loop's, which has fuel enough. -/
theorem timerCountdown : Obligations.TimerCountdown := by
  refine ⟨rfl, fun s _ => ⟨timerLine_of_stopped, fun hrun => ?_⟩⟩
  obtain ⟨k, heq, henough, hleast⟩ :=
    reloadTimer_eq s.timerLatch.toNat (-(s.timerCounter - (s.params.cyclesPerLine : Int))).toNat
      (s.timerCounter - s.params.cyclesPerLine)
  refine ⟨k, ?_, henough (Int.self_le_toNat _), hleast⟩
  rw [timerLine_of_running hrun, heq]

/-! ## The start of a line (R452) -/

/-- All that the start of a line changes. -/
theorem beginLine_eq (n : Nat) (s : State) :
    beginLine n s =
      { s with
        line := n
        rasterLatched :=
          s.rasterLatched || ((s.shadow.read 0x01A).getLsbD 0 && decide (n = rasterTarget s.shadow))
        timerCounter := (timerLine s).timerCounter
        timerLatched := (timerLine s).timerLatched
        lineTarget := s.lineTarget + s.params.cyclesPerLine
        phase := .cpuLoop } := by
  rw [beginLine, rasterCheck_eq, timerLine, timerLine]
  split <;> rfl

/-- The loop's fields after the start of a line. -/
theorem beginLine_fields (n : Nat) (s : State) :
    (beginLine n s).line = n ∧ (beginLine n s).lineTarget = s.lineTarget + s.params.cyclesPerLine ∧
    (beginLine n s).phase = .cpuLoop ∧ (beginLine n s).cycles = s.cycles ∧
    (beginLine n s).hostActions = s.hostActions ∧ (beginLine n s).params = s.params := by
  rw [beginLine_eq]
  exact ⟨rfl, rfl, rfl, rfl, rfl, rfl⟩

/-- Settles O48: the start of a line latches the flag by the raster check alone. -/
theorem rasterCompare : Obligations.RasterCompare := by
  refine ⟨rfl, fun n s => ?_⟩
  rw [beginLine_eq, ← rasterTarget_eq_or]
  intro target
  have henabled : (s.shadow.read 0x01A).getLsbD 0 = true ↔ (s.shadow.read 0x01A).toNat &&& 0x01 = 1 := by
    rw [Nat.and_one_is_mod, BitVec.getLsbD, Nat.testBit_zero, decide_eq_true_iff]
  refine ⟨rfl, ?latched, fun htarget hn => ?unreachable, rfl, rfl⟩
  case latched => simp only [Bool.or_eq_true, Bool.and_eq_true, decide_eq_true_iff, henabled, target]
  case unreachable =>
    have hne : n ≠ rasterTarget s.shadow := by
      rintro rfl
      exact absurd hn (Nat.not_lt.2 htarget)
    simp only [hne, decide_false, Bool.and_false, Bool.or_false]

end Sys2Proof.Machine
end

section
/-!
PROOFS. The interrupt flags (R464, R466): the one access that clears each of them, followed through every form of an
instruction, and that nothing else in the block does.
-/

namespace Sys2Proof.Machine

open Sys2Proof.Safety

theorem RegisterOp.devicePart_eq {f : State → State} (hf : RegisterOp f) (s : State) : devicePart (f s) = devicePart s :=
  congrArg Prod.fst (hf.busPart_eq s)

/-! ## The ways an illegal opcode completes (R350, R367) -/

theorem ifInIllegalSet_next_cases {op : Byte} {run : State → Result} {s t : State}
    (h : ifInIllegalSet op run s = .next t) : run s = .next t ∨ t = undecoded op s := by
  unfold ifInIllegalSet at h
  split at h
  · exact .inl h
  · exact .inr (Host.Outcome.next.inj h).symm

theorem eq_undecoded_of_unstableOpcode {op : Byte} {s t : State} (h : unstableOpcode op s = .next t) :
    t = undecoded op s := by
  unfold unstableOpcode at h
  split at h
  · cases h
  · exact (Host.Outcome.next.inj h).symm

/-! ## The raster flag (R464) -/

/-- The access clears the raster flag: a write that the block's own interception sees at $D019. -/
def ClearsRasterFlag (a : Addr) (s : State) : Prop := a = 0xD019 ∧ isIO a s = true ∧ s.params.writeCallback = .block

theorem memWrite_rasterLatched (a : Addr) (v : Byte) (s : State) :
    (memWrite a v s).rasterLatched = s.rasterLatched ∨ ClearsRasterFlag a s := by
  cases hio : isIO a s
  case false => exact .inl (by rw [memWrite_ram hio]; rfl)
  case true =>
    cases hc : s.params.writeCallback
    case absent => exact .inl (by rw [memWrite_absent hio hc]; rfl)
    case host => exact .inl (by rw [memWrite_host hio hc]; rfl)
    case block =>
      by_cases ha : a = 0xD019
      case pos => exact .inr ⟨ha, hio, hc⟩
      case neg =>
        obtain ⟨-, hkept, -⟩ := writeIntercept_devices a v s
        exact .inl (by rw [memWrite_block hio hc]; exact hkept ha)

theorem rasterLatched_of_devicePart_eq {s t : State} (h : devicePart t = devicePart s) :
    t.rasterLatched = s.rasterLatched :=
  congrArg (·.2.2.1) h

theorem clearsRasterFlag_of_devicePart_eq {a : Addr} {s t : State} (h : devicePart t = devicePart s)
    (hclears : ClearsRasterFlag a t) : ClearsRasterFlag a s := by
  have hparams : t.params = s.params := congrArg (·.1.2.2) h
  obtain ⟨ha, hio, hc⟩ := hclears
  exact ⟨ha, isIO_of_devicePart_eq h a ▸ hio, hparams ▸ hc⟩

/-- An instruction keeps the raster flag unless it stores to $D019, form by form: a push never does. -/
theorem Form.rasterLatched {i : Instr} {run : State → Result} (h : Form i run) {s t : State} (hrun : run s = .next t) :
    t.rasterLatched = s.rasterLatched ∨ ∃ a, storeAddress i s = some a ∧ ClearsRasterFlag a s := by
  induction h with
  | registers _ hf =>
    cases hrun
    exact .inl (rasterLatched_of_devicePart_eq (hf.devicePart_eq s))
  | reads _ hf =>
    cases hrun
    exact .inl (rasterLatched_of_devicePart_eq (((hf _).devicePart_eq _).trans (devicePart_memRead _ _)))
  | jumps =>
    cases hrun
    exact .inl (rasterLatched_of_devicePart_eq ((devicePart_memRead _ _).trans (devicePart_memRead _ _)))
  | @stores e n v _ _ hstore =>
    cases hrun
    exact (memWrite_rasterLatched (e s).addr (v s) s).imp_right fun hclears => ⟨_, hstore s, hclears⟩
  | @modifies e n f k _ _ hf hk _ hstore =>
    obtain rfl := modifyAt_next.1 hrun
    let new := f (memRead (e s).addr s).1 (memRead (e s).addr s).2
    have hnew : devicePart new.2 = devicePart s := ((hf _).devicePart_eq _).trans (devicePart_memRead _ _)
    have hdone := rasterLatched_of_devicePart_eq ((hk new.1).devicePart_eq (memWrite (e s).addr new.1 new.2))
    obtain hkept | hclears := memWrite_rasterLatched (e s).addr new.1 new.2
    · exact .inl (hdone.trans (hkept.trans (rasterLatched_of_devicePart_eq hnew)))
    · exact .inr ⟨_, hstore s, clearsRasterFlag_of_devicePart_eq hnew hclears⟩
  | pushes =>
    cases hrun
    exact .inl (by rw [push_eq]; rfl)
  | calls =>
    cases hrun
    exact .inl (by rw [pushAddr_eq]; rfl)
  | breaks =>
    cases hrun
    exact .inl (by rw [takeInterrupt_eq_read])
  | jams =>
    cases hrun
    exact .inl rfl
  | illegal _ ih =>
    obtain hrun | rfl := ifInIllegalSet_next_cases hrun
    · exact ih hrun
    · exact .inl rfl
  | unstable =>
    obtain rfl := eq_undecoded_of_unstableOpcode hrun
    exact .inl rfl

/-! ## The timer flag (R466) -/

/-- The access clears the timer flag: a read that the block's own interception answers at $DC0D. -/
def ClearsTimerFlag (a : Addr) (s : State) : Prop := a = 0xDC0D ∧ isIO a s = true ∧ s.params.readCallback = .block

theorem memRead_timerLatched_or_clears (a : Addr) (s : State) :
    (memRead a s).2.timerLatched = s.timerLatched ∨ ClearsTimerFlag a s := by
  by_cases ha : a = 0xDC0D
  case neg => exact .inl (memRead_timerLatched ha s)
  case pos =>
    cases hio : isIO a s
    case false => exact .inl (by rw [memRead_ram hio])
    case true =>
      cases hc : s.params.readCallback
      case absent => exact .inl (by rw [memRead_absent hio hc])
      case host => exact .inl (by rw [memRead_host hio hc])
      case block => exact .inr ⟨ha, hio, hc⟩

theorem clearsTimerFlag_congr {a : Addr} {s t : State} (hparams : t.params = s.params) (hio : isIO a t = isIO a s)
    (h : ClearsTimerFlag a t) : ClearsTimerFlag a s := by
  obtain ⟨ha, hroute, hc⟩ := h
  exact ⟨ha, hio ▸ hroute, hparams ▸ hc⟩

/-- A read does not change the routing, so of two reads each clears the flag only as it would alone. -/
theorem two_reads_timerLatched (a b : Addr) (s : State) :
    (memRead b (memRead a s).2).2.timerLatched = s.timerLatched ∨ ClearsTimerFlag a s ∨ ClearsTimerFlag b s := by
  have hroute : isIO b (memRead a s).2 = isIO b s := isIO_of_devicePart_eq (devicePart_memRead a s) b
  obtain hfirst | hclears := memRead_timerLatched_or_clears a s
  · obtain hsecond | hclears := memRead_timerLatched_or_clears b (memRead a s).2
    · exact .inl (hsecond.trans hfirst)
    · exact .inr (.inr (clearsTimerFlag_congr (by simp) hroute hclears))
  · exact .inr (.inl hclears)

/-- BRK reads its vector after three pushes, which stay in page 1 and so do not change the routing (R51, R98, R313). -/
theorem takeInterrupt_timerLatched {s : State} (h : MemoryInv s) (vec ret : Addr) (p : Byte) (ev : Addr → Byte → Event)
    (cost : Nat) :
    (takeInterrupt vec ret p ev cost s).timerLatched = s.timerLatched ∨ ClearsTimerFlag vec s ∨
      ClearsTimerFlag (vec + 1) s := by
  let pushed := push p (push (loByte ret) (push (hiByte ret) s))
  have hparams : pushed.params = s.params := by simp [pushed, push_eq]
  have hflag : pushed.timerLatched = s.timerLatched := by simp [pushed, push_eq]
  have hram : pushed.ram = ramAfterEntry ret p s := by simp [pushed, push_eq, ramAfterEntry]
  have hlow := bankCtrlAddr_lt s
  have hcontrol := read_ramAfterEntry h ret p (k := s.params.bankCtrlAddr.toNat) (by omega) (by omega) (by omega)
  have hroute := isIO_of_bankCtrl_eq hparams (hram ▸ hcontrol)
  rw [takeInterrupt_eq_read]
  obtain hkept | hclears | hclears := two_reads_timerLatched vec (vec + 1) pushed
  · exact .inl (hkept.trans hflag)
  · exact .inr (.inl (clearsTimerFlag_congr hparams (hroute _) hclears))
  · exact .inr (.inr (clearsTimerFlag_congr hparams (hroute _) hclears))

theorem RegisterOp.timerLatched_eq {f : State → State} (hf : RegisterOp f) (s : State) :
    (f s).timerLatched = s.timerLatched :=
  congrArg (·.2.1) (hf.busPart_eq s)

/-- An instruction keeps the timer flag unless it reads $DC0D, form by form: a write never clears it. -/
theorem Form.timerLatched {i : Instr} {run : State → Result} (h : Form i run) {s t : State} (hinv : MemoryInv s)
    (hrun : run s = .next t) :
    t.timerLatched = s.timerLatched ∨ ∃ a ∈ readAddresses i s, ClearsTimerFlag a s := by
  induction h with
  | registers _ hf =>
    cases hrun
    exact .inl (hf.timerLatched_eq s)
  | @reads e n f _ hf hread =>
    cases hrun
    obtain hkept | hclears := memRead_timerLatched_or_clears (e s).addr s
    · exact .inl (((hf _).timerLatched_eq _).trans hkept)
    · exact .inr ⟨_, by simp [hread], hclears⟩
  | @jumps a hread =>
    cases hrun
    obtain hkept | hclears | hclears := two_reads_timerLatched a (pointerHigh a) s
    · exact .inl hkept
    · exact .inr ⟨_, by simp [hread], hclears⟩
    · exact .inr ⟨_, by simp [hread], hclears⟩
  | stores =>
    obtain rfl := storeAt_next.1 hrun
    exact .inl (by simp)
  | @modifies e n f k _ _ hf hk hread =>
    obtain rfl := modifyAt_next.1 hrun
    obtain hkept | hclears := memRead_timerLatched_or_clears (e s).addr s
    · have hwritten (a : Addr) (v : Byte) (u : State) : (memWrite a v u).timerLatched = u.timerLatched := by simp
      exact .inl (((hk _).timerLatched_eq _).trans ((hwritten _ _ _).trans (((hf _).timerLatched_eq _).trans hkept)))
    · exact .inr ⟨_, by simp [hread], hclears⟩
  | pushes =>
    cases hrun
    exact .inl (by rw [push_eq]; rfl)
  | calls =>
    cases hrun
    exact .inl (by rw [pushAddr_eq]; rfl)
  | breaks hread =>
    cases hrun
    obtain hkept | hclears | hclears := takeInterrupt_timerLatched hinv s.params.vecIrq (s.pc + 1) (getP s.flags) .brk 7
    · exact .inl hkept
    · exact .inr ⟨_, by simp [hread], hclears⟩
    · exact .inr ⟨_, by simp [hread], hclears⟩
  | jams =>
    cases hrun
    exact .inl rfl
  | illegal _ ih =>
    obtain hrun | rfl := ifInIllegalSet_next_cases hrun
    · exact ih hrun
    · exact .inl rfl
  | unstable =>
    obtain rfl := eq_undecoded_of_unstableOpcode hrun
    exact .inl rfl

/-! ## The block -/

/-- Settles O10: by the one access that clears each flag; what is no instruction makes no such access. -/
theorem latchesCleared : Obligations.LatchesCleared := by
  refine ⟨fun v s hio hc => ?writeRaster, fun s hio hc => ?readRaster, fun i s t hexec hset hclear => ?rasterFlag,
    fun s hio hc => ?readTimer, fun i s t hinv hexec hset hclear => ?timerFlag, fun a v s => by simp,
    fun s a n vec ev hinv hreset hvec t ht => ?block⟩
  case writeRaster => rw [memWrite_block hio hc]; rfl
  case readRaster => exact memRead_handled hio hc rfl
  case readTimer => exact memRead_handled hio hc rfl
  case rasterFlag =>
    obtain hkept | ⟨a, hstore, rfl, hio, hc⟩ := (exec_form i).rasterLatched hexec
    · simp [hkept, hset] at hclear
    · exact ⟨hstore, hio, hc⟩
  case timerFlag =>
    obtain hkept | ⟨a, hread, rfl, hio, hc⟩ := (exec_form i).timerLatched hinv hexec
    · simp [hkept, hset] at hclear
    · exact ⟨hread, hio, hc⟩
  case block =>
    simp only [List.mem_cons, List.not_mem_nil, or_false] at ht
    obtain rfl | rfl | rfl | rfl | rfl | rfl | rfl | rfl := ht
    · rw [doReset_eq hreset]
      exact ⟨id, id⟩
    · rw [enterInterrupt, takeInterrupt_eq (inRam_ramAfterEntry hinv _ _ hvec)]
      exact ⟨id, id⟩
    · unfold callTrap
      split <;> exact ⟨id, id⟩
    · exact ⟨id, id⟩
    · exact ⟨id, id⟩
    · rw [beginLine_eq, timerLine_eq]
      exact ⟨fun h => by simp [h], fun h => by simp [h]⟩
    · exact ⟨id, id⟩
    · exact ⟨id, id⟩

end Sys2Proof.Machine
end

section
/-!
PROOFS. A step of the CPU as the scheduler and the units see it: MemWrites, and otherwise nothing of theirs. What a step of
the CPU keeps of the frame loop and of the units follows from what one write can do.
-/

namespace Sys2Proof.Machine

open Sys2Proof.Safety

/-! ## The scheduler's and the units' part of the state -/

/-- The frame loop's position and what it depends on, none of which the CPU writes (R449, R450, R452). -/
def loopPart (s : State) : (Nat × Nat × Phase × Nat) × (List HostAction × Params) :=
  ((s.line, s.lineTarget, s.phase, s.frameRequests), (s.hostActions, s.params))

/-- The loop's part, the timer's counter, and the video and audio units. -/
def unitPart (s : State) : ((Nat × Nat × Phase × Nat) × (List HostAction × Params)) × (Int × Video × Audio) :=
  (loopPart s, (s.timerCounter, s.video, s.audio))

/-- One thing a CPU step does as the scheduler and the units see it: none of their business, or a MemWrite. -/
inductive UnitStep : State → State → Prop
  | silent {s t : State} (h : unitPart t = unitPart s) : UnitStep s t
  | write (a : Addr) (v : Byte) (s : State) : UnitStep s (memWrite a v s)

/-- A run of such steps. -/
abbrev UnitSteps : State → State → Prop := Relation.ReflTransGen UnitStep

theorem unitSteps_of_unitPart_eq {s t : State} (h : unitPart t = unitPart s) : UnitSteps s t := .single (.silent h)

theorem UnitSteps.of_unitPart_eq {s u t : State} (h : UnitSteps u t) (hu : unitPart u = unitPart s) : UnitSteps s t :=
  .head (.silent hu) h

theorem unitPart_memRead (a : Addr) (s : State) : unitPart (memRead a s).2 = unitPart s := by
  simp [unitPart, loopPart]

theorem loopPart_memWrite (a : Addr) (v : Byte) (s : State) : loopPart (memWrite a v s) = loopPart s := by
  simp [loopPart]

theorem UnitSteps.loopPart_eq {s t : State} (h : UnitSteps s t) : loopPart t = loopPart s := by
  induction h with
  | refl => rfl
  | tail _ hstep ih =>
    rw [← ih]
    cases hstep with
    | silent h => exact congrArg Prod.fst h
    | write a v => exact loopPart_memWrite a v _

/-! ## An instruction -/

theorem MicroStep.unitStep {op : Byte} {s t : State} (h : MicroStep op s t) : UnitStep s t := by
  cases h with
  | registers _ hw => exact .silent (hw.frame unitPart fun _ _ _ _ _ => rfl)
  | read a => exact .silent (unitPart_memRead a s)
  | write a v => exact .write a v s
  | jump | record | jam => exact .silent rfl

theorem exec_unitSteps {i : Instr} {s t : State} (hwf : WellFormed i) (hexec : exec i s = .next t) : UnitSteps s t := by
  cases exec_completesIn i s hwf t hexec with
  | decoded hrun => exact .tail (hrun.lift id fun _ _ => MicroStep.unitStep) (.silent rfl)
  | undecoded => exact unitSteps_of_unitPart_eq rfl

/-! ## A step of the CPU (R400) -/

theorem unitPart_fetch (s : State) : unitPart (fetch s).2 = unitPart s :=
  unitPart_memRead s.pc s

theorem unitPart_fetchIf (wanted : Bool) (s : State) : unitPart (fetchIf wanted s).2 = unitPart s := by
  cases wanted
  case false => rfl
  case true => exact unitPart_fetch s

theorem unitPart_callTrap (a : Addr) (s : State) : unitPart (callTrap a s) = unitPart s := by
  unfold callTrap
  split <;> rfl

theorem exec_fetchOperands_unitSteps {op : Byte} {s t : State}
    (hexec : exec (fetchOperands op s).1 (fetchOperands op s).2 = .next t) : UnitSteps s t :=
  (exec_unitSteps (wellFormed_decodeBytes _ _ _) hexec).of_unitPart_eq
    ((unitPart_fetchIf _ _).trans (unitPart_fetchIf _ _))

theorem kernalTrap_unitSteps {a : Addr} {s t : State} (hstep : kernalTrap a s = .next t) : UnitSteps s t :=
  (exec_fetchOperands_unitSteps hstep).of_unitPart_eq (unitPart_callTrap a s)

theorem trapOrExecute_unitSteps {s t : State} (hstep : trapOrExecute s = .next t) : UnitSteps s t := by
  unfold trapOrExecute at hstep
  split at hstep
  · exact kernalTrap_unitSteps hstep
  · exact (exec_fetchOperands_unitSteps hstep).of_unitPart_eq (unitPart_fetch s)

theorem unitPart_enterInterrupt (vec : Addr) (ev : Addr → Byte → Event) (s : State) :
    unitPart (enterInterrupt vec ev s) = unitPart s := by
  rw [enterInterrupt, takeInterrupt_eq_read]
  rfl

theorem unitPart_doReset (s : State) : unitPart (doReset s) = unitPart s := by
  rw [doReset_eq_read]
  exact (unitPart_memRead _ _).trans (unitPart_memRead _ _)

theorem runningStep_unitSteps {s t : State} (hstep : runningStep s = .next t) : UnitSteps s t := by
  unfold runningStep at hstep
  split at hstep
  · obtain rfl := Host.Outcome.next.inj hstep
    exact unitSteps_of_unitPart_eq (unitPart_enterInterrupt _ _ _)
  · split at hstep
    · obtain rfl := Host.Outcome.next.inj hstep
      exact unitSteps_of_unitPart_eq (unitPart_enterInterrupt _ _ _)
    · exact (trapOrExecute_unitSteps hstep).of_unitPart_eq rfl

/-- All that a step of the CPU does to the scheduler and the units. -/
theorem cpuStep_unitSteps {s t : State} (hstep : cpuStep s = .next t) : UnitSteps s t := by
  unfold cpuStep at hstep
  split at hstep
  · obtain rfl := Host.Outcome.next.inj hstep
    exact unitSteps_of_unitPart_eq (unitPart_doReset s)
  · split at hstep
    · obtain rfl := Host.Outcome.next.inj hstep
      exact unitSteps_of_unitPart_eq rfl
    · exact runningStep_unitSteps hstep

end Sys2Proof.Machine
end

section
/-!
PROOFS. The loop of R450 and R452 as the block's steps. A pass of the CPU loop is a step of the block, and so are the start
and the end of each line and of the frame; a line's passes bound its cycles.
-/

namespace Sys2Proof.Machine

open Sys2Proof.Safety

/-! ## The passes of a line's CPU loop (R452, R453) -/

/-- One pass of the loop `while cycles < lineTarget`. -/
def LoopPass (s t : State) : Prop := s.cycles < s.lineTarget ∧ cpuStep (driveIrqLine s) = .next t

/-- The passes of a line. -/
abbrev LoopPasses : State → State → Prop := Relation.ReflTransGen LoopPass

theorem LoopPass.loopPart_eq {s t : State} (h : LoopPass s t) : loopPart t = loopPart s :=
  (cpuStep_unitSteps h.2).loopPart_eq

/-- A pass adds a step's cost: at least one cycle where steps cost, and at most the dearest step's. -/
theorem LoopPass.cycles {s t : State} (h : LoopPass s t) :
    (StepsCost s.params → s.cycles < t.cycles) ∧ t.cycles ≤ s.cycles + stepBound s.params := by
  obtain ⟨-, hcosts⟩ := cpuStepCosts
  obtain ⟨hgrows, hbound, -⟩ := hcosts _ _ h.2
  exact ⟨hgrows, hbound⟩

theorem LoopPasses.loopPart_eq {s t : State} (h : LoopPasses s t) : loopPart t = loopPart s := by
  induction h with
  | refl => rfl
  | tail _ hpass ih => exact hpass.loopPart_eq.trans ih

theorem lineTarget_of_loopPart_eq {s t : State} (h : loopPart t = loopPart s) : t.lineTarget = s.lineTarget :=
  congrArg (·.1.2.1) h

theorem params_of_loopPart_eq {s t : State} (h : loopPart t = loopPart s) : t.params = s.params :=
  congrArg (·.2.2) h

/-- A pass begins below the target, so no pass ends a step's cost past it. -/
theorem LoopPasses.cycles_lt {s t : State} (h : LoopPasses s t) (hs : s.cycles < s.lineTarget + stepBound s.params) :
    t.cycles < s.lineTarget + stepBound s.params := by
  induction h with
  | refl => exact hs
  | tail hpasses hpass _ =>
    have hkept := LoopPasses.loopPart_eq hpasses
    obtain ⟨-, hbound⟩ := hpass.cycles
    obtain ⟨hbelow, -⟩ := hpass
    rw [params_of_loopPart_eq hkept] at hbound
    rw [lineTarget_of_loopPart_eq hkept] at hbelow
    omega

/-- The CPU loop runs some passes, and with fuel enough it stops only at the target. -/
theorem runCpu_next {fuel : Nat} {s t : State} (h : runCpu fuel s = .next t) :
    LoopPasses s t ∧ (StepsCost s.params → s.lineTarget ≤ s.cycles + fuel → t.lineTarget ≤ t.cycles) := by
  induction fuel generalizing s with
  | zero =>
    obtain rfl := Host.Outcome.next.inj h
    exact ⟨.refl, fun _ hfuel => hfuel⟩
  | succ fuel ih =>
    rw [runCpu] at h
    split at h
    case isFalse hpast =>
      obtain rfl := Host.Outcome.next.inj h
      exact ⟨.refl, fun _ _ => Nat.not_lt.1 hpast⟩
    case isTrue hbelow =>
      split at h
      case h_1 u hstep =>
        have hpass : LoopPass s u := ⟨hbelow, hstep⟩
        obtain ⟨hgrows, -⟩ := hpass.cycles
        obtain ⟨hpasses, hstops⟩ := ih h
        rw [params_of_loopPart_eq hpass.loopPart_eq, lineTarget_of_loopPart_eq hpass.loopPart_eq] at hstops
        refine ⟨.head hpass hpasses, fun hcost hfuel => hstops hcost ?_⟩
        have := hgrows hcost
        omega
      case h_2 | h_3 => cases h

theorem runCpu_of_past {s : State} (fuel : Nat) (h : s.lineTarget ≤ s.cycles) : runCpu fuel s = .next s := by
  cases fuel with
  | zero => rfl
  | succ fuel => rw [runCpu, if_neg (Nat.not_lt.2 h)]

/-- A line that runs to its end is its start, passes of the CPU loop, and its end (R452). -/
theorem runLine_next {n : Nat} {s t : State} (h : runLine n s = .next t) :
    ∃ u, runCpu ((beginLine n s).lineTarget - (beginLine n s).cycles) (beginLine n s) = .next u ∧ t = endLine u := by
  unfold runLine at h
  dsimp only at h
  split at h
  case h_1 u hrun => exact ⟨u, hrun, (Host.Outcome.next.inj h).symm⟩
  case h_2 | h_3 => cases h

/-- Settles O50: from the passes of the line, the first of which is made only below the target. -/
theorem lineBudget : Obligations.LineBudget := by
  intro n s t hline target
  obtain ⟨u, hrun, rfl⟩ := runLine_next hline
  obtain ⟨-, htarget, -, hcycles, -, hparams⟩ := beginLine_fields n s
  obtain ⟨hpasses, hstops⟩ := runCpu_next hrun
  have hkept : u.lineTarget = target := (lineTarget_of_loopPart_eq hpasses.loopPart_eq).trans htarget
  have hlt := hpasses.cycles_lt
  rw [hparams, hkept] at hstops
  rw [hcycles, hparams, htarget] at hlt
  refine ⟨hkept, fun hcost => hstops hcost (by omega), fun hbelow => hlt (by omega), fun hpast => ?past⟩
  case past =>
    rw [runCpu_of_past _ (by omega)] at hrun
    obtain rfl := Host.Outcome.next.inj hrun
    exact hcycles

/-! ## The block's steps (R450, R452) -/

/-- A run of the block's steps. -/
abbrev BlockSteps : State → State → Prop := Relation.ReflTransGen fun s t => step s = .next t

/-- A run of steps is one of the host's interface, of some length. -/
theorem BlockSteps.exists_run {s t : State} (h : BlockSteps s t) :
    ∃ k, Host.Core.run Sys2Proof.core k s = .next t := by
  induction h using Relation.ReflTransGen.head_induction_on with
  | refl => exact ⟨0, rfl⟩
  | @head s u hstep _ ih =>
    obtain ⟨k, hrun⟩ := ih
    refine ⟨k + 1, ?_⟩
    have hcore : Sys2Proof.core.step s = .next u := hstep
    simp only [Host.Core.run, hcore]
    exact hrun

theorem step_of_nil {s : State} (h : s.hostActions = []) : step s = blockStep s := by
  rw [step, takeActions_of_nil h]

/-- A pass is a step of the block inside a line. -/
theorem LoopPass.step_eq {s t : State} (h : LoopPass s t) (hacts : s.hostActions = []) (hphase : s.phase = .cpuLoop) :
    step s = .next t := by
  obtain ⟨hbelow, hstep⟩ := h
  rw [step_of_nil hacts, blockStep_cpuLoop hphase hbelow, hstep]

theorem LoopPasses.blockSteps {s t : State} (h : LoopPasses s t) (hacts : s.hostActions = [])
    (hphase : s.phase = .cpuLoop) : BlockSteps s t ∧ t.hostActions = [] ∧ t.phase = .cpuLoop := by
  induction h with
  | refl => exact ⟨.refl, hacts, hphase⟩
  | tail _ hpass ih =>
    obtain ⟨hsteps, hacts', hphase'⟩ := ih
    have hkept := hpass.loopPart_eq
    exact ⟨.tail hsteps (hpass.step_eq hacts' hphase'), (congrArg (·.2.1) hkept).trans hacts',
      (congrArg (·.1.2.2.1) hkept).trans hphase'⟩

/-- The loop is about to begin line `n`, or past its last line; no action of the host comes. -/
def BeforeLine (n : Nat) (s : State) : Prop :=
  s.hostActions = [] ∧ s.phase = if n < s.params.linesPerFrame then .lineStart n else .frameEnd

theorem beforeLine_beginFrame {s : State} (hacts : s.hostActions = []) : BeforeLine 0 (beginFrame s) :=
  ⟨hacts, rfl⟩

theorem beforeLine_endLine {s : State} (hacts : s.hostActions = []) : BeforeLine (s.line + 1) (endLine s) :=
  ⟨hacts, rfl⟩

/-- A line that runs to its end is reached by steps, and the next one comes after them. -/
theorem runLine_blockSteps {n : Nat} {s t : State} (hcost : StepsCost s.params) (hbefore : BeforeLine n s)
    (hn : n < s.params.linesPerFrame) (hline : runLine n s = .next t) :
    BlockSteps s t ∧ BeforeLine (n + 1) t ∧ t.params = s.params := by
  obtain ⟨u, hrun, rfl⟩ := runLine_next hline
  obtain ⟨hacts, hphase⟩ := hbefore
  obtain ⟨hlineNo, -, hphaseB, -, hactsB, hparamsB⟩ := beginLine_fields n s
  obtain ⟨hpasses, hstops⟩ := runCpu_next hrun
  obtain ⟨hsteps, hactsU, hphaseU⟩ := hpasses.blockSteps (hactsB.trans hacts) hphaseB
  have hkept := hpasses.loopPart_eq
  have hbegin : step s = .next (beginLine n s) := by
    rw [if_pos hn] at hphase
    rw [step_of_nil hacts, blockStep, hphase]
  have hend : step u = .next (endLine u) := by
    have hpast : ¬ u.cycles < u.lineTarget := Nat.not_lt.2 (hstops (hparamsB ▸ hcost) (by omega))
    rw [step_of_nil hactsU, blockStep, hphaseU]
    exact if_neg hpast
  have hlineU : u.line = n := (congrArg (·.1.1) hkept).trans hlineNo
  exact ⟨.head hbegin (.tail hsteps hend), hlineU ▸ beforeLine_endLine hactsU,
    (params_of_loopPart_eq hkept).trans hparamsB⟩

/-- The last `k` lines of a frame, from line `n` on. -/
theorem runLines_blockSteps {k n : Nat} {s t : State} (hcost : StepsCost s.params) (hbefore : BeforeLine n s)
    (hn : n + k = s.params.linesPerFrame) (hlines : runLines k n s = .next t) :
    BlockSteps s t ∧ t.hostActions = [] ∧ t.phase = .frameEnd := by
  induction k generalizing n s with
  | zero =>
    obtain rfl := Host.Outcome.next.inj hlines
    obtain ⟨hacts, hphase⟩ := hbefore
    exact ⟨.refl, hacts, hphase.trans (if_neg (by omega))⟩
  | succ k ih =>
    rw [runLines] at hlines
    split at hlines
    case h_1 u hline =>
      obtain ⟨hsteps, hnext, hparams⟩ := runLine_blockSteps hcost hbefore (by omega) hline
      obtain ⟨hrest, hdone⟩ := ih (hparams ▸ hcost) hnext (by rw [hparams]; omega) hlines
      exact ⟨hsteps.trans hrest, hdone⟩
    case h_2 | h_3 => cases hlines

/-- Settles O46: the start of the frame, its lines and its end are runs of steps. -/
theorem frameIsSteps : Obligations.FrameIsSteps := by
  intro s t hcost hphase hacts hframes hframe
  have hbegin : step s = .next (beginFrame s) := by
    rw [step_of_nil hacts, blockStep, hphase]
    exact if_neg hframes
  unfold runFrame at hframe
  split at hframe
  case h_1 u hlines =>
    obtain rfl := Host.Outcome.next.inj hframe
    obtain ⟨hsteps, hactsU, hphaseU⟩ :=
      runLines_blockSteps (s := beginFrame s) hcost (beforeLine_beginFrame hacts) (Nat.zero_add _) hlines
    have hend : step u = .next (endFrame u) := by rw [step_of_nil hactsU, blockStep, hphaseU]
    exact BlockSteps.exists_run (.head hbegin (.tail hsteps hend))
  case h_2 | h_3 => cases hframe

end Sys2Proof.Machine
end

section
/-!
PROOFS. The ranges of the video and the audio unit (R502, R553, R576): each operation of a unit keeps them.
-/

namespace Sys2Proof.Machine

open Sys2Proof.Safety

/-! ## The video unit (R502) -/

theorem length_putPixel (row : List Pixel) (x : Int) (colour : Pixel) : (putPixel row x colour).length = row.length := by
  unfold putPixel
  split
  · exact List.length_set
  · rfl

/-- A fold of drawing steps that keep a row's length keeps it. -/
theorem length_foldl {α : Type} {draw : List Pixel → α → List Pixel} (h : ∀ row x, (draw row x).length = row.length)
    (xs : List α) (row : List Pixel) : (xs.foldl draw row).length = row.length := by
  induction xs generalizing row with
  | nil => rfl
  | cons x xs ih => exact (ih _).trans (h row x)

theorem length_drawSpritePixel (sh : Memory) (i d : Nat) (row : List Pixel) (j : Nat) :
    (drawSpritePixel sh i d row j).length = row.length := by
  unfold drawSpritePixel
  dsimp only
  split
  · rfl
  · exact length_foldl (fun _ _ => length_putPixel _ _ _) _ _

theorem length_drawSprites (ram sh : Memory) (v : Video) (row : List Pixel) :
    (drawSprites ram sh v row).length = row.length := by
  refine length_foldl (fun row i => ?_) _ _
  unfold drawSprite
  dsimp only
  split
  · exact length_foldl (length_drawSpritePixel _ _ _) _ _
  · rfl

theorem length_graphicsRow (ram sh : Memory) (v : Video) : (graphicsRow ram sh v).length = 320 := by
  unfold graphicsRow
  split
  · exact List.length_replicate
  · exact (List.length_map _).trans List.length_range

theorem length_maskBorder (sh : Memory) {row : List Pixel} (h : row.length = 320) : (maskBorder sh row).length = 320 := by
  unfold maskBorder
  split
  · exact h
  · simp [h]

theorem length_renderRow (ram sh : Memory) (n : Nat) (v : Video) : (renderRow ram sh n v).length = 320 := by
  unfold renderRow
  split
  · exact List.length_replicate
  · exact length_maskBorder sh ((length_drawSprites _ _ _ _).trans (length_graphicsRow _ _ _))

theorem surfaceShape_set {f : List (List Pixel)} (h : SurfaceShape f) (k : Nat) {row : List Pixel}
    (hrow : row.length = 320) : SurfaceShape (f.set k row) := by
  obtain ⟨hlength, hrows⟩ := h
  refine ⟨List.length_set.trans hlength, fun r hr => ?_⟩
  obtain hr | rfl := List.mem_or_eq_of_mem_set hr
  · exact hrows r hr
  · exact hrow

theorem length_mapSprites (f : Nat → Sprite → Sprite) (i : Nat) (ps : List Sprite) :
    (mapSprites f i ps).length = ps.length := by
  induction ps generalizing i with
  | nil => rfl
  | cons p ps ih => simp [mapSprites, ih]

theorem mapSprites_row_le {f : Nat → Sprite → Sprite} (hf : ∀ i p, p.row ≤ 20 → (f i p).row ≤ 20) (i : Nat)
    {ps : List Sprite} (h : ∀ p ∈ ps, p.row ≤ 20) : ∀ p ∈ mapSprites f i ps, p.row ≤ 20 := by
  induction ps generalizing i with
  | nil => simp [mapSprites]
  | cons q ps ih =>
    obtain ⟨hq, hps⟩ := List.forall_mem_cons.1 h
    exact List.forall_mem_cons.2 ⟨hf i q hq, ih (i + 1) hps⟩

/-- A sprite begins at row 0 (R520). -/
theorem activateSprite_row_le (sh : Memory) (n i : Nat) (p : Sprite) (h : p.row ≤ 20) :
    (activateSprite sh n i p).row ≤ 20 := by
  unfold activateSprite
  split
  · exact Nat.zero_le 20
  · exact h

/-- After row 20 a sprite ends (R522). -/
theorem advanceSprite_row_le (p : Sprite) (h : p.row ≤ 20) : (advanceSprite p).row ≤ 20 := by
  unfold advanceSprite
  split
  · split
    · exact Nat.zero_le 20
    · dsimp only
      omega
  · exact h

theorem videoInv_mapSprites {v : Video} (h : VideoInv v) {f : Nat → Sprite → Sprite}
    (hf : ∀ i p, p.row ≤ 20 → (f i p).row ≤ 20) : VideoInv { v with sprites := mapSprites f 0 v.sprites } := by
  obtain ⟨hfetched, hcur, hrc, hscreen, hcolor, hcount, hrows, hfront, hback⟩ := h
  exact ⟨hfetched, hcur, hrc, hscreen, hcolor, (length_mapSprites f 0 _).trans hcount, mapSprites_row_le hf 0 hrows,
    hfront, hback⟩

/-- A badline fetches a row of 40 while fewer than 25 are fetched, and the row counter runs from 0 to 7 (R514). -/
theorem videoInv_badlineStep {v : Video} (h : VideoInv v) (ram sh : Memory) (n : Nat) :
    VideoInv (badlineStep ram sh n v) := by
  have hkept := h
  obtain ⟨hfetched, hcur, hrc, hscreen, hcolor, hcount, hrows, hfront, hback⟩ := h
  unfold badlineStep
  split
  case isTrue hbad =>
    have hfew : v.fetchedRows < 25 := of_decide_eq_true (Bool.and_eq_true_iff.1 hbad).2
    exact ⟨hfew, Nat.le_of_lt_succ hfew, Nat.zero_le 7, (List.length_map _).trans List.length_range,
      (List.length_map _).trans List.length_range, hcount, hrows, hfront, hback⟩
  case isFalse =>
    split
    · split
      · exact ⟨hfetched, hcur, Nat.zero_le 7, hscreen, hcolor, hcount, hrows, hfront, hback⟩
      · exact ⟨hfetched, hcur, by dsimp only; omega, hscreen, hcolor, hcount, hrows, hfront, hback⟩
    · exact hkept

theorem videoInv_renderLine {v : Video} (h : VideoInv v) (p : Params) (ram sh : Memory) (n : Nat) :
    VideoInv (renderLine p ram sh n v) := by
  have hkept := h
  obtain ⟨hfetched, hcur, hrc, hscreen, hcolor, hcount, hrows, hfront, hback⟩ := h
  unfold renderLine
  split
  · exact ⟨hfetched, hcur, hrc, hscreen, hcolor, hcount, hrows, hfront,
      surfaceShape_set hback _ (length_renderRow _ _ _ _)⟩
  · exact hkept

theorem videoInv_videoLine {v : Video} (h : VideoInv v) (p : Params) (ram sh : Memory) (n : Nat) :
    VideoInv (videoLine p ram sh n v) :=
  have hactive := videoInv_mapSprites (videoInv_badlineStep h ram sh n) (activateSprite_row_le sh n)
  videoInv_mapSprites (videoInv_renderLine hactive p ram sh n) fun _ => advanceSprite_row_le

theorem videoInv_beginFrameVideo {v : Video} (h : VideoInv v) : VideoInv (beginFrameVideo v) := by
  obtain ⟨-, -, -, hscreen, hcolor, hcount, -, hfront, hback⟩ := h
  refine ⟨Nat.zero_le 25, Nat.zero_le 24, Nat.zero_le 7, hscreen, hcolor, (List.length_map _).trans hcount, fun p hp => ?_,
    hfront, hback⟩
  obtain ⟨-, -, rfl⟩ := List.mem_map.1 hp
  exact Nat.zero_le 20

theorem videoInv_swapSurfaces {v : Video} (h : VideoInv v) : VideoInv (swapSurfaces v) := by
  obtain ⟨hfetched, hcur, hrc, hscreen, hcolor, hcount, hrows, hfront, hback⟩ := h
  exact ⟨hfetched, hcur, hrc, hscreen, hcolor, hcount, hrows, hback, hfront⟩

/-! ## The audio unit (R553, R576) -/

theorem ratePeriod_le (rate : Nat) : ratePeriod rate ≤ 31251 := by
  have htable : ∀ r ∈ rateTable, r ≤ 31251 := by decide
  unfold ratePeriod
  rw [List.getD_eq_getElem?_getD]
  cases hr : rateTable[rate]?
  case none => exact le_rfl
  case some r => exact htable r (List.mem_of_getElem? hr)

theorem expPeriod_le (e : Nat) : expPeriod e ≤ 30 := by
  unfold expPeriod
  split_ifs <;> decide

theorem envPeriod_le (sh : Memory) (i : Nat) (p : AdsrPhase) : envPeriod sh i p ≤ 31251 := by
  cases p <;> exact ratePeriod_le _

theorem clockOsc_counters (ctl : Byte) (freq : BitVec 16) (c : Channel) :
    (clockOsc ctl freq c).1.rateCtr = c.rateCtr ∧ (clockOsc ctl freq c).1.expCtr = c.expCtr := by
  unfold clockOsc
  split <;> exact ⟨rfl, rfl⟩

/-- A level step leaves the counters alone. -/
theorem attackStep_counters (c : Channel) :
    (attackStep c).rateCtr = c.rateCtr ∧ (attackStep c).expCtr = c.expCtr :=
  ⟨rfl, rfl⟩

theorem fallStep_counters (sustain : Nat) (c : Channel) :
    (fallStep sustain c).rateCtr = c.rateCtr ∧ (fallStep sustain c).expCtr = c.expCtr := by
  unfold fallStep
  split
  · exact ⟨rfl, rfl⟩
  · split <;> exact ⟨rfl, rfl⟩
  · split <;> exact ⟨rfl, rfl⟩

/-- A channel's ranges are a matter of its two counters. -/
theorem channelInv_congr {c d : Channel} (h : ChannelInv c) (hctr : d.rateCtr = c.rateCtr ∧ d.expCtr = c.expCtr) :
    ChannelInv d := by
  obtain ⟨hrate, hexp⟩ := hctr
  rwa [ChannelInv, hrate, hexp]

/-- Each counter starts again at 0 where it reaches its period (R568). -/
theorem channelInv_clockEnv {c : Channel} (h : ChannelInv c) (sh : Memory) (i : Nat) : ChannelInv (clockEnv sh i c) := by
  obtain ⟨-, hexp⟩ := h
  unfold clockEnv
  split
  case isTrue hrate =>
    have := envPeriod_le sh i c.adsr
    exact ⟨by dsimp only; omega, hexp⟩
  case isFalse =>
    split
    · have hzero : ChannelInv { c with rateCtr := 0 } := ⟨Nat.zero_le _, hexp⟩
      exact channelInv_congr hzero (attackStep_counters _)
    · split
      case isTrue hless =>
        have := expPeriod_le c.env.toNat
        exact ⟨Nat.zero_le _, by dsimp only; omega⟩
      case isFalse =>
        have hzero : ChannelInv { c with rateCtr := 0, expCtr := 0 } := ⟨Nat.zero_le _, Nat.zero_le _⟩
        exact channelInv_congr hzero (fallStep_counters _ _)

theorem channelInv_clockChannel {c : Channel} (h : ChannelInv c) (sh : Memory) (i : Nat) :
    ChannelInv (clockChannel sh i c).1 :=
  channelInv_clockEnv (channelInv_congr h (clockOsc_counters _ _ c)) sh i

theorem channelInv_applySync {c : Channel} (h : ChannelInv c) (rose : Bool) (ctl : Byte) :
    ChannelInv (applySync rose ctl c) := by
  unfold applySync
  split <;> exact h

theorem audioInv_clockChannels {au : Audio} (h : AudioInv au) (sh : Memory) : AudioInv (clockChannels sh au) := by
  obtain ⟨h0, h1, h2, hqueue, hlast⟩ := h
  exact ⟨channelInv_applySync (channelInv_clockChannel h0 sh 0) _ _,
    channelInv_applySync (channelInv_clockChannel h1 sh 1) _ _,
    channelInv_applySync (channelInv_clockChannel h2 sh 2) _ _, hqueue, hlast⟩

theorem unitSample_normalise (v : RealTerm) (vol : Nat) : UnitSample (normalise v vol) := by
  unfold UnitSample
  rw [normalise_toReal]
  exact ⟨le_max_left _ _, max_le (by norm_num) (min_le_left _ _)⟩

/-- A rendered cycle keeps the unit's ranges, and its sample is in range. -/
theorem audioInv_audioCycle {au : Audio} (h : AudioInv au) (p : Params) (sh : Memory) :
    AudioInv (audioCycle p sh au).1 ∧ ∀ q ∈ (audioCycle p sh au).2, UnitSample q := by
  have hclocked : AudioInv (clockChannels sh au) := audioInv_clockChannels h sh
  unfold audioCycle
  dsimp only
  split
  · exact ⟨hclocked, List.forall_mem_singleton.2 (unitSample_normalise _ _)⟩
  · exact ⟨hclocked, by simp⟩

theorem audioInv_renderCycles {au : Audio} (h : AudioInv au) (p : Params) (sh : Memory) (m : Nat) :
    AudioInv (renderCycles p sh m au).1 ∧ ∀ q ∈ (renderCycles p sh m au).2, UnitSample q := by
  induction m generalizing au with
  | zero => exact ⟨h, by simp [renderCycles]⟩
  | succ m ih =>
    obtain ⟨hcycle, hfirst⟩ := audioInv_audioCycle h p sh
    obtain ⟨hrest, hbatch⟩ := ih hcycle
    exact ⟨hrest, List.forall_mem_append.2 ⟨hfirst, hbatch⟩⟩

/-- A flush queues samples in range alone (R552, R556). -/
theorem audioInv_flushAudio {au : Audio} (h : AudioInv au) (p : Params) (sh : Memory) (now : Nat) (frameEnd : Bool) :
    AudioInv (flushAudio p sh now frameEnd au) := by
  have hedges : AudioInv (gateEdges sh { au with lastCycle := now }) := h
  unfold flushAudio
  dsimp only
  obtain ⟨⟨h0, h1, h2, hqueue, hlast⟩, hbatch⟩ := audioInv_renderCycles hedges p sh _
  exact ⟨h0, h1, h2, List.forall_mem_append.2 ⟨hqueue, hbatch⟩, hlast⟩

/-- The consumer takes from the queue, and repeats the last sample taken (R582). -/
theorem audioInv_consumeSamples {au : Audio} (h : AudioInv au) (k : Nat) : AudioInv (consumeSamples k au).2 := by
  obtain ⟨h0, h1, h2, hqueue, hlast⟩ := h
  refine ⟨h0, h1, h2, fun q hq => hqueue q (List.mem_of_mem_drop hq), ?_⟩
  change UnitSample ((au.queue.take k).getLastD au.lastOut)
  obtain hq | hq := List.mem_cons.1 (List.getLastD_mem_cons (l := au.queue.take k) (a := au.lastOut))
  · rwa [hq]
  · exact hqueue _ (List.mem_of_mem_take hq)

end Sys2Proof.Machine
end

section
/-!
PROOFS. The ranges of the scheduler's, video and audio state along every step of the block (R449, R502, R553, R576).
-/

namespace Sys2Proof.Machine

open Sys2Proof.Safety

/-! ## A step of the CPU -/

/-- The ranges of the scheduler's, video and audio state together. -/
def UnitInv (s : State) : Prop := SchedulerInv s ∧ VideoInv s.video ∧ AudioInv s.audio

/-- The ranges are a matter of the scheduler's and the units' part alone. -/
theorem unitInv_congr {s t : State} (h : UnitInv s) (hpart : unitPart t = unitPart s) : UnitInv t := by
  simp only [unitPart, loopPart, Prod.mk.injEq] at hpart
  obtain ⟨⟨⟨hline, -, hphase, -⟩, -, hparams⟩, hcounter, hvideo, haudio⟩ := hpart
  unfold UnitInv SchedulerInv
  rw [hline, hphase, hparams, hcounter, hvideo, haudio]
  exact h

theorem unitInv_withTimerCounter {s : State} (h : UnitInv s) {c : Int} (hc : 0 ≤ c ∧ c < 65536) :
    UnitInv { s with timerCounter := c } := by
  obtain ⟨⟨hline, -, -, hphase⟩, hvideo, haudio⟩ := h
  exact ⟨⟨hline, hc.1, hc.2, hphase⟩, hvideo, haudio⟩

theorem unitInv_withAudio {s : State} (h : UnitInv s) {au : Audio} (hau : AudioInv au) : UnitInv { s with audio := au } := by
  obtain ⟨hscheduler, hvideo, -⟩ := h
  exact ⟨hscheduler, hvideo, hau⟩

theorem word_range (w : BitVec 16) : 0 ≤ (w.toNat : Int) ∧ (w.toNat : Int) < 65536 := by
  have := w.isLt
  omega

/-- The block's write interception loads the counter from 16 bits, if it loads it, and flushes in range (R107,
R460, R552). -/
theorem unitInv_writeIntercept {s : State} (h : UnitInv s) (a : Addr) (v : Byte) : UnitInv (writeIntercept a v s) := by
  have hkept := h
  obtain ⟨⟨-, hlo, hhi, -⟩, -, haudio⟩ := h
  have hhigh : 0 ≤ (writeTimerHigh v s).timerCounter ∧ (writeTimerHigh v s).timerCounter < 65536 := by
    unfold writeTimerHigh
    dsimp only
    split
    · exact ⟨hlo, hhi⟩
    · exact word_range _
  have hcontrol : 0 ≤ (writeTimerControl v s).timerCounter ∧ (writeTimerControl v s).timerCounter < 65536 := by
    unfold writeTimerControl
    dsimp only
    split
    · exact word_range _
    · exact ⟨hlo, hhi⟩
  unfold writeIntercept
  split_ifs
  · exact unitInv_congr hkept rfl
  · exact unitInv_congr hkept rfl
  · exact unitInv_congr (unitInv_withTimerCounter hkept hhigh) rfl
  · exact unitInv_congr hkept rfl
  · exact unitInv_congr (unitInv_withTimerCounter hkept hcontrol) rfl
  · exact unitInv_withAudio hkept (audioInv_flushAudio haudio _ _ _ _)
  · exact hkept

theorem unitInv_memWrite {s : State} (h : UnitInv s) (a : Addr) (v : Byte) : UnitInv (memWrite a v s) := by
  cases hio : isIO a s
  case false => exact unitInv_congr h (by rw [memWrite_ram hio]; rfl)
  case true =>
    cases hc : s.params.writeCallback
    case absent => exact unitInv_congr h (by rw [memWrite_absent hio hc]; rfl)
    case host => exact unitInv_congr h (by rw [memWrite_host hio hc]; rfl)
    case block => exact unitInv_congr (unitInv_writeIntercept h a v) (by rw [memWrite_block hio hc]; rfl)

theorem unitInv_unitSteps {s t : State} (h : UnitInv s) (hsteps : UnitSteps s t) : UnitInv t := by
  induction hsteps with
  | refl => exact h
  | tail _ hstep ih =>
    cases hstep with
    | silent hpart => exact unitInv_congr ih hpart
    | write a v => exact unitInv_memWrite ih a v

theorem unitInv_cpuStep {s t : State} (h : UnitInv s) (hstep : cpuStep s = .next t) : UnitInv t :=
  unitInv_unitSteps h (cpuStep_unitSteps hstep)

/-! ## The frame loop and the host's actions (R450, R452, R460) -/

/-- Before its last reload the counter was below zero, so it ends at most at the latch (R460). -/
theorem timerLine_range {s : State} (hlo : 0 ≤ s.timerCounter) (hhi : s.timerCounter < 65536) :
    0 ≤ (timerLine s).timerCounter ∧ (timerLine s).timerCounter < 65536 := by
  obtain ⟨-, hspec⟩ := timerCountdown
  obtain ⟨hstopped, hrunning⟩ := hspec s hlo
  cases hrun : (s.shadow.read 0xC0E).getLsbD 0
  case false =>
    rw [hstopped hrun]
    exact ⟨hlo, hhi⟩
  case true =>
    obtain ⟨k, heq, hnonneg, hleast⟩ := hrunning hrun
    rw [heq]
    refine ⟨hnonneg, ?_⟩
    have hlatch := s.timerLatch.isLt
    dsimp only
    obtain rfl | hk := Nat.eq_zero_or_pos k
    · simp only [Nat.cast_zero, zero_mul]
      omega
    · have hbefore := hleast hk.ne'
      rw [sub_one_mul] at hbefore
      omega

theorem unitInv_beginLine {s : State} (h : UnitInv s) {n : Nat} (hn : n < s.params.linesPerFrame) :
    UnitInv (beginLine n s) := by
  obtain ⟨⟨-, hlo, hhi, -⟩, hvideo, haudio⟩ := h
  obtain ⟨hlo', hhi'⟩ := timerLine_range hlo hhi
  rw [beginLine_eq]
  exact ⟨⟨hn, hlo', hhi', nofun⟩, hvideo, haudio⟩

/-- The loop begins a line of the frame alone. -/
theorem lt_of_ite_eq_lineStart {m n lines : Nat} (h : (if m < lines then Phase.lineStart m else .frameEnd) = .lineStart n) :
    n < lines := by
  split at h
  · cases h
    assumption
  · cases h

theorem unitInv_endLine {s : State} (h : UnitInv s) : UnitInv (endLine s) := by
  obtain ⟨⟨hline, hlo, hhi, -⟩, hvideo, haudio⟩ := h
  exact ⟨⟨hline, hlo, hhi, fun _ => lt_of_ite_eq_lineStart⟩, videoInv_videoLine hvideo _ _ _ _, haudio⟩

theorem unitInv_beginFrame {s : State} (h : UnitInv s) : UnitInv (beginFrame s) := by
  obtain ⟨⟨hline, hlo, hhi, -⟩, hvideo, haudio⟩ := h
  exact ⟨⟨hline, hlo, hhi, fun _ => lt_of_ite_eq_lineStart⟩, videoInv_beginFrameVideo hvideo, haudio⟩

theorem unitInv_endFrame {s : State} (h : UnitInv s) : UnitInv (endFrame s) := by
  obtain ⟨⟨hline, hlo, hhi, -⟩, hvideo, haudio⟩ := h
  exact ⟨⟨hline, hlo, hhi, nofun⟩, videoInv_swapSurfaces hvideo, audioInv_flushAudio haudio _ _ _ _⟩

theorem unitInv_blockStep {s t : State} (h : UnitInv s) (hstep : blockStep s = .next t) : UnitInv t := by
  have hkept := h
  unfold blockStep at hstep
  split at hstep
  case h_1 =>
    split at hstep
    · exact unitInv_cpuStep h hstep
    · obtain rfl := Host.Outcome.next.inj hstep
      exact unitInv_beginFrame h
  case h_2 n hphase =>
    obtain rfl := Host.Outcome.next.inj hstep
    obtain ⟨⟨-, -, -, hlines⟩, -⟩ := h
    exact unitInv_beginLine hkept (hlines n hphase)
  case h_3 =>
    split at hstep
    · exact unitInv_cpuStep (unitInv_congr (t := driveIrqLine s) h rfl) hstep
    · obtain rfl := Host.Outcome.next.inj hstep
      exact unitInv_endLine h
  case h_4 =>
    obtain rfl := Host.Outcome.next.inj hstep
    exact unitInv_endFrame h

theorem unitInv_applyAction {s : State} (h : UnitInv s) (act : HostAction) : UnitInv (applyAction act s) := by
  obtain ⟨hscheduler, hvideo, haudio⟩ := h
  cases act with
  | consume k => exact ⟨hscheduler, hvideo, audioInv_consumeSamples haudio k⟩
  | loadImage file =>
    simp only [applyAction, loadImage]
    split <;> exact ⟨hscheduler, hvideo, haudio⟩
  | pause | requestReset | requestNmi | driveIrq | requestFrame => exact ⟨hscheduler, hvideo, haudio⟩

theorem unitInv_takeListed {s : State} (h : UnitInv s) (acts : List HostAction) : UnitInv (takeListed acts s) := by
  induction acts generalizing s with
  | nil => exact h
  | cons act acts ih =>
    cases act
    case pause => exact h
    all_goals exact ih (unitInv_applyAction h _)

/-- Settles O45: the host's actions keep the ranges, and so does every action of the block. -/
theorem unitInvariants : Obligations.UnitInvariants :=
  fun s _ hscheduler hvideo haudio hstep =>
    unitInv_blockStep (unitInv_takeListed ⟨hscheduler, hvideo, haudio⟩ s.hostActions) hstep

end Sys2Proof.Machine
end

section
/-!
PROOFS. The video unit's registers and a line without its pixels (R501, R504, R514, R520, R522): the fields of a register as
the shifts and masks that the rules write, the badline, and the sprites' rows.
-/

namespace Sys2Proof.Machine

/-! ## The fields of a register (R501, R504) -/

/-- The field of `width` bits at bit `k`. -/
theorem shiftRight_and_mask (n k width : Nat) : (n >>> k) &&& (2 ^ width - 1) = n / 2 ^ k % 2 ^ width := by
  rw [Nat.and_two_pow_sub_one_eq_mod, Nat.shiftRight_eq_div_pow]

theorem videoBank_eq_and (sh : Memory) : videoBank sh = (3 - ((sh.read 0xD00).toNat &&& 0x03)) * 0x4000 :=
  congrArg (fun k => (3 - k) * 0x4000) (Nat.and_two_pow_sub_one_eq_mod (sh.read 0xD00).toNat 2).symm

theorem screenBase_eq_and (sh : Memory) :
    screenBase sh = videoBank sh + (((sh.read 0x018).toNat >>> 4) &&& 0x0F) * 0x400 :=
  congrArg (videoBank sh + · * 0x400) (shiftRight_and_mask (sh.read 0x018).toNat 4 4).symm

theorem charBase_eq_and (sh : Memory) :
    charBase sh = videoBank sh + (((sh.read 0x018).toNat >>> 1) &&& 0x07) * 0x800 :=
  congrArg (videoBank sh + · * 0x800) (shiftRight_and_mask (sh.read 0x018).toNat 1 3).symm

theorem bitmapBase_eq_and (sh : Memory) :
    bitmapBase sh = videoBank sh + (((sh.read 0x018).toNat >>> 3) &&& 0x01) * 0x2000 :=
  congrArg (videoBank sh + · * 0x2000) (shiftRight_and_mask (sh.read 0x018).toNat 3 1).symm

/-! ## The badline (R514) -/

theorem isBadline_iff (sh : Memory) (n : Nat) (v : Video) :
    isBadline sh n v = true ↔
      (sh.read 0x011).getLsbD 4 = true ∧ 0x30 ≤ n ∧ n ≤ 0xF7 ∧ n % 8 = (sh.read 0x011).toNat % 8 ∧ v.fetchedRows < 25 := by
  simp only [isBadline, Bool.and_eq_true, decide_eq_true_eq, and_assoc]
  rfl

theorem badlineStep_of_isBadline {sh : Memory} {n : Nat} {v : Video} (h : isBadline sh n v = true) (ram : Memory) :
    badlineStep ram sh n v =
      { v with
        curRow := v.fetchedRows
        fetchedRows := v.fetchedRows + 1
        screenRow := fetchScreen ram sh v.fetchedRows
        colorRow := fetchColours sh v.fetchedRows
        rc := 0
        displayOn := true } :=
  if_pos h

theorem badlineStep_of_not_isBadline {sh : Memory} {n : Nat} {v : Video} (h : ¬ isBadline sh n v = true) (ram : Memory) :
    badlineStep ram sh n v =
      if v.displayOn then (if v.rc + 1 = 8 then { v with rc := 0, displayOn := false } else { v with rc := v.rc + 1 })
      else v :=
  if_neg h

theorem badlineStep_sprites (ram sh : Memory) (n : Nat) (v : Video) : (badlineStep ram sh n v).sprites = v.sprites := by
  unfold badlineStep
  split
  · rfl
  · split
    · split <;> rfl
    · rfl

/-- Settles O53: a badline's row, and what the row counter does on every other line. -/
theorem badlineFetch : Obligations.BadlineFetch := by
  intro ram sh n v bank screen badline
  have hbad : isBadline sh n v = true ↔ badline := isBadline_iff sh n v
  have hscreen : screenBase sh = screen := (screenBase_eq_and sh).trans (congrArg (· + _) (videoBank_eq_and sh))
  refine ⟨fun h => ?_, fun h hon => ?_, fun h hoff => ?_⟩
  · rw [badlineStep_of_isBadline (hbad.2 h), fetchScreen, hscreen]
    rfl
  · rw [badlineStep_of_not_isBadline (mt hbad.1 h), if_pos hon]
  · rw [badlineStep_of_not_isBadline (mt hbad.1 h), if_neg (Bool.eq_false_iff.1 hoff)]

/-! ## The sprites' rows (R520, R522) -/

theorem getElem?_mapSprites (f : Nat → Sprite → Sprite) (k i : Nat) (ps : List Sprite) :
    (mapSprites f k ps)[i]? = ps[i]?.map (f (k + i)) := by
  induction ps generalizing k i with
  | nil => rfl
  | cons p ps ih =>
    cases i with
    | zero => rfl
    | succ i => simpa [mapSprites, Nat.add_assoc, Nat.add_comm 1 i] using ih (k + 1) i

theorem renderLine_sprites (p : Params) (ram sh : Memory) (n : Nat) (v : Video) :
    (renderLine p ram sh n v).sprites = v.sprites := by
  unfold renderLine
  split <;> rfl

/-- A line activates each sprite, renders with it, and then advances it (R512). -/
theorem getElem?_videoLine_sprites (c : Params) (ram sh : Memory) (n i : Nat) (v : Video) :
    (videoLine c ram sh n v).sprites[i]? = v.sprites[i]?.map fun p => advanceSprite (activateSprite sh n i p) := by
  simp only [videoLine, renderLine_sprites, badlineStep_sprites, getElem?_mapSprites, Option.map_map, Nat.zero_add,
    Function.comp_def]

theorem advanceSprite_activateSprite (sh : Memory) (n i : Nat) (p : Sprite) :
    advanceSprite (activateSprite sh n i p) =
      if p.active then (if p.row + 1 = 21 then ⟨false, 0⟩ else ⟨true, p.row + 1⟩)
      else if (sh.read 0x015).getLsbD i && decide (n % 256 = ((sh.read (0x001 + 2 * i)).toNat + 1) % 256) then ⟨true, 1⟩
      else p := by
  cases hactive : p.active with
  | true => simp [activateSprite, advanceSprite, hactive]
  | false =>
    rw [activateSprite, hactive, Bool.not_false, Bool.true_and, apply_ite advanceSprite,
      show advanceSprite p = p by simp [advanceSprite, hactive]]
    rfl

/-- An activated sprite: 21 lines at rows 0 to 20, and inactive from then on (R522). -/
theorem iterate_advanceSprite (k : Nat) :
    advanceSprite^[k] ⟨true, 0⟩ = if k < 21 then ⟨true, k⟩ else ⟨false, 0⟩ := by
  induction k with
  | zero => rfl
  | succ k ih =>
    rw [Function.iterate_succ_apply', ih]
    obtain hrow | rfl | hended := Nat.lt_trichotomy k 20
    · simp [advanceSprite, hrow, hrow.ne, Nat.lt_succ_of_lt hrow]
    · rfl
    · rw [if_neg (by omega), if_neg (by omega)]
      rfl

/-- Settles O52: sprite by sprite, activation and then the row advance; and the rows of an activated sprite, by induction on
the lines. -/
theorem spriteLines : Obligations.SpriteLines := by
  refine ⟨fun c ram sh n i v p hp => ?_, iterate_advanceSprite⟩
  rw [getElem?_videoLine_sprites, hp, Option.map_some, advanceSprite_activateSprite]

/-! ## The graphics pixels (R517, R518) -/

theorem nibble_eq_ofNat (v : Byte) : nibble v = BitVec.ofNat 4 (v.toNat % 16) := by
  apply BitVec.eq_of_toNat_eq
  simp [nibble]

theorem highNibble_eq_ofNat (v : Byte) : highNibble v = BitVec.ofNat 4 (v.toNat / 16) := by
  apply BitVec.eq_of_toNat_eq
  simp [highNibble, Nat.shiftRight_eq_div_pow]

/-- The pair under graphics column sx, from the even one of its two bits (R517). -/
theorem pixelPair_eq_and (g : Byte) (sx : Nat) : pixelPair g (sx % 8) = (g.toNat >>> (6 - ((sx % 8) &&& 6))) &&& 3 := by
  have heven : (sx % 8) &&& 6 = sx % 8 / 2 % 4 * 2 := and_mask_shiftLeft (sx % 8) 2 1
  have hpair : sx % 8 / 2 % 4 = sx % 8 / 2 := by omega
  rw [heven, hpair]
  exact (shiftRight_and_mask g.toNat _ 2).symm

theorem graphicsPixel_of_lt {sh : Memory} {x : Nat} (h : x < xScroll sh) (ram : Memory) (v : Video) :
    graphicsPixel ram sh v x = background sh 0 :=
  if_pos h

theorem graphicsPixel_character {sh : Memory} {x : Nat} (h : xScroll sh ≤ x) (hbmm : bitmapMode sh = false) (ram : Memory)
    (v : Video) : graphicsPixel ram sh v x = charPixel ram sh v (x - xScroll sh) := by
  rw [graphicsPixel, if_neg h.not_gt, if_neg (Bool.eq_false_iff.1 hbmm)]

theorem graphicsPixel_bitmap {sh : Memory} {x : Nat} (h : xScroll sh ≤ x) (hbmm : bitmapMode sh = true) (ram : Memory)
    (v : Video) : graphicsPixel ram sh v x = bitmapPixel ram sh v (x - xScroll sh) := by
  rw [graphicsPixel, if_neg h.not_gt, if_pos hbmm]

/-- A choice among four colours by a two-bit pair (R517, R518). -/
def pairColour (p : Nat) (c0 c1 c2 c3 : Pixel) : Pixel := if p = 0 then c0 else if p = 1 then c1 else if p = 2 then c2 else c3

section
variable {sh : Memory} (ram : Memory) (v : Video) (sx : Nat)

theorem charPixel_extended (hecm : extendedColour sh = true) :
    charPixel ram sh v sx =
      let code := (v.screenRow.getD (sx / 8) 0).toNat
      if (ram.read (charBase sh + code % 64 * 8 + v.rc)).getLsbD (7 - sx % 8) then v.colorRow.getD (sx / 8) 0
      else background sh (code / 64) :=
  if_pos hecm

theorem charPixel_standard (hecm : extendedColour sh = false) (hmcm : multicolour sh = false) :
    charPixel ram sh v sx =
      if (ram.read (charBase sh + (v.screenRow.getD (sx / 8) 0).toNat * 8 + v.rc)).getLsbD (7 - sx % 8) then
        v.colorRow.getD (sx / 8) 0
      else background sh 0 := by
  rw [charPixel, hecm, hmcm]
  rfl

theorem charPixel_multicolour (hecm : extendedColour sh = false) (hmcm : multicolour sh = true) :
    charPixel ram sh v sx =
      let col := v.colorRow.getD (sx / 8) 0
      let f := ram.read (charBase sh + (v.screenRow.getD (sx / 8) 0).toNat * 8 + v.rc)
      if col.getLsbD 3 then
        pairColour (pixelPair f (sx % 8)) (background sh 0) (background sh 1) (background sh 2) (col &&& 7)
      else if f.getLsbD (7 - sx % 8) then col &&& 7 else background sh 0 := by
  rw [charPixel, hecm, hmcm]
  dsimp only
  generalize pixelPair _ _ = p
  obtain _ | _ | _ | p := p <;> rfl

theorem bitmapPixel_standard (hmcm : multicolour sh = false) :
    bitmapPixel ram sh v sx =
      let code := v.screenRow.getD (sx / 8) 0
      if (ram.read (bitmapBase sh + v.curRow * 320 + sx / 8 * 8 + v.rc)).getLsbD (7 - sx % 8) then highNibble code
      else nibble code := by
  rw [bitmapPixel, hmcm]
  rfl

theorem bitmapPixel_multicolour (hmcm : multicolour sh = true) :
    bitmapPixel ram sh v sx =
      let code := v.screenRow.getD (sx / 8) 0
      pairColour (pixelPair (ram.read (bitmapBase sh + v.curRow * 320 + sx / 8 * 8 + v.rc)) (sx % 8)) (background sh 0)
        (highNibble code) (nibble code) (v.colorRow.getD (sx / 8) 0) := by
  rw [bitmapPixel, hmcm]
  dsimp only
  generalize pixelPair _ _ = p
  obtain _ | _ | _ | p := p <;> rfl

end

/-- Settles O55: the decode of each mode, with the bases, the pairs and the nibbles in the words of R504, R517 and R518. -/
theorem graphicsPixels : Obligations.GraphicsPixels := by
  intro ram sh v x xs sx px code col b ecm bmm mcm bank chars bitmap f fe g pair pick
  have hchars : charBase sh = chars := (charBase_eq_and sh).trans (congrArg (· + _) (videoBank_eq_and sh))
  have hbitmap : bitmapBase sh = bitmap := (bitmapBase_eq_and sh).trans (congrArg (· + _) (videoBank_eq_and sh))
  refine ⟨fun h => ?left, fun h hbmm hecm hmcm => ?standard, fun h hbmm hecm hmcm => ?multicolour,
    fun h hbmm hecm => ?extended, fun h hbmm hmcm => ?bitmap, fun h hbmm hmcm => ?bitmapMulticolour⟩
  case left => exact graphicsPixel_of_lt h ram v
  case standard =>
    rw [graphicsPixel_character h hbmm, charPixel_standard _ _ _ hecm hmcm, hchars]
    rfl
  case multicolour =>
    rw [graphicsPixel_character h hbmm, charPixel_multicolour _ _ _ hecm hmcm, hchars]
    dsimp only
    rw [pixelPair_eq_and]
    rfl
  case extended =>
    rw [graphicsPixel_character h hbmm, charPixel_extended _ _ _ hecm, hchars]
    rfl
  case bitmap =>
    rw [graphicsPixel_bitmap h hbmm, bitmapPixel_standard _ _ _ hmcm, hbitmap]
    dsimp only
    rw [highNibble_eq_ofNat, nibble_eq_ofNat, ← apply_ite]
    rfl
  case bitmapMulticolour =>
    rw [graphicsPixel_bitmap h hbmm, bitmapPixel_multicolour _ _ _ hmcm, hbitmap]
    dsimp only
    rw [pixelPair_eq_and, highNibble_eq_ofNat, nibble_eq_ofNat]
    rfl

end Sys2Proof.Machine
end

section
/-!
PROOFS. The pixels of a visible line (R516, R519, R524, R526). A drawing step leaves a column as it was or gives it one colour,
so after a run of them the last colour given stands there: that of one source pixel of a sprite, and, as the sprites are drawn
back to front, of the lowest-numbered sprite that has a colour there.
-/

namespace Sys2Proof.Machine

/-! ## A column under a run of drawing steps -/

/-- Of a run of drawing steps, the last that gives column x a colour decides it. -/
theorem getElem?_foldl_draw {α : Type} {draw : List Pixel → α → List Pixel} {f : α → Option Pixel} {x : Nat}
    (hlength : ∀ row a, (draw row a).length = row.length)
    (hdraw : ∀ row a, x < row.length → (draw row a)[x]? = (f a).or row[x]?) (as : List α) {row : List Pixel}
    (hrow : x < row.length) : (as.foldl draw row)[x]? = (as.reverse.findSome? f).or row[x]? := by
  induction as generalizing row with
  | nil => rfl
  | cons a as ih =>
    rw [List.foldl_cons, ih (hrow.trans_eq (hlength row a).symm), hdraw row a hrow, List.reverse_cons, List.findSome?_append,
      List.findSome?_singleton, Option.or_assoc]

/-- A search through a range in which one index alone can answer. -/
theorem findSome?_reverse_range {f : Nat → Option Pixel} {k : Nat} (h : ∀ j, j ≠ k → f j = none) (n : Nat) :
    (List.range n).reverse.findSome? f = if k < n then f k else none := by
  induction n with
  | zero => rfl
  | succ n ih =>
    rw [List.range_succ, List.reverse_append, List.findSome?_append, List.reverse_singleton, List.findSome?_singleton, ih]
    obtain rfl | hne := eq_or_ne n k
    · simp
    · have hiff : k < n ↔ k < n + 1 := by omega
      rw [h n hne, Option.none_or, if_congr hiff rfl rfl]

/-- The least index with an answer gives a search's answer. -/
theorem findSome?_range_of_least {f : Nat → Option Pixel} {i n : Nat} {c : Pixel} (hi : i < n) (hc : f i = some c)
    (hbelow : ∀ j < i, f j = none) : (List.range n).findSome? f = some c := by
  have hinitial : List.range (i + 1) <+: List.range n := by
    simpa only [List.take_range, Nat.min_eq_left (Nat.succ_le_of_lt hi)] using List.take_prefix (i + 1) (List.range n)
  have hnone : (List.range i).findSome? f = none :=
    List.findSome?_eq_none_iff.2 fun j hj => hbelow j (List.mem_range.1 hj)
  refine hinitial.findSome?_eq_some ?_
  rw [List.range_succ, List.findSome?_append, hnone, List.findSome?_singleton, hc, Option.none_or]

theorem getElem?_putPixel {x : Nat} (hx : x < 320) (c : Int) (colour : Pixel) {row : List Pixel} (hrow : x < row.length) :
    (putPixel row c colour)[x]? = (if c = x then some colour else none).or row[x]? := by
  unfold putPixel
  obtain rfl | hne := eq_or_ne c x
  · simp [hx, hrow]
  · rw [if_neg hne, Option.none_or]
    split
    case isTrue hc => exact List.getElem?_set_ne (by omega)
    case isFalse => rfl

/-- One colour put in several columns, of which at most the k-th is column x. -/
theorem getElem?_foldl_putPixel {x : Nat} (hx : x < 320) {column : Nat → Int} {k : Nat}
    (h : ∀ j, j ≠ k → column j ≠ x) (n : Nat) (colour : Pixel) {row : List Pixel} (hrow : x < row.length) :
    ((List.range n).foldl (fun r j => putPixel r (column j) colour) row)[x]? =
      (if k < n ∧ column k = x then some colour else none).or row[x]? := by
  rw [getElem?_foldl_draw (fun row j => length_putPixel row (column j) colour)
      (fun _ j hrow => getElem?_putPixel hx (column j) colour hrow) _ hrow,
    findSome?_reverse_range fun j hj => if_neg (h j hj), ite_and]

/-! ## One sprite (R524, R526) -/

/-- The width in surface columns of a source pixel of sprite i (R524). -/
def spriteWidth (sh : Memory) (i : Nat) : Nat := if (videoReg sh 0x1D).getLsbD i then 2 else 1

theorem spriteWidth_pos (sh : Memory) (i : Nat) : 0 < spriteWidth sh i := by
  unfold spriteWidth
  split <;> decide

/-- The colour that row data d of sprite i gives to surface column x, if it reaches it and is not transparent there. -/
def spritePixel (sh : Memory) (i d x : Nat) : Option Pixel :=
  if spriteX sh i ≤ x + 24 ∧ x + 24 < spriteX sh i + 24 * spriteWidth sh i then
    spriteColour sh i d ((x + 24 - spriteX sh i) / spriteWidth sh i)
  else none

/-- Column x is one of the w columns of source pixel j, counted from the pixel or from the column (R526). -/
theorem sourceColumn_iff {left w j x : Nat} (hw : 0 < w) :
    x + 24 - left - w * j < w ∧ (left : Int) - 24 + ((w * j + (x + 24 - left - w * j) : Nat) : Int) = x ↔
      left ≤ x + 24 ∧ (x + 24 - left) / w = j := by
  rw [Nat.div_eq_iff hw, Nat.mul_comm j w]
  omega

theorem drawSpritePixel_of_none {sh : Memory} {i d j : Nat} (h : spriteColour sh i d j = none) (row : List Pixel) :
    drawSpritePixel sh i d row j = row := by
  rw [drawSpritePixel, h]

theorem drawSpritePixel_of_some {sh : Memory} {i d j : Nat} {colour : Pixel} (h : spriteColour sh i d j = some colour)
    (row : List Pixel) :
    drawSpritePixel sh i d row j =
      (List.range (spriteWidth sh i)).foldl
        (fun r (k : Nat) => putPixel r ((spriteX sh i : Int) - 24 + ((spriteWidth sh i * j + k : Nat) : Int)) colour) row := by
  rw [drawSpritePixel, h]
  rfl

section
variable {x : Nat} (hx : x < 320)
include hx

theorem getElem?_drawSpritePixel (sh : Memory) (i d j : Nat) {row : List Pixel} (hrow : x < row.length) :
    (drawSpritePixel sh i d row j)[x]? =
      (if spriteX sh i ≤ x + 24 ∧ (x + 24 - spriteX sh i) / spriteWidth sh i = j then spriteColour sh i d j
        else none).or row[x]? := by
  cases hcolour : spriteColour sh i d j with
  | none => rw [drawSpritePixel_of_none hcolour, ite_self, Option.none_or]
  | some colour =>
    have hpart : ∀ k, k ≠ x + 24 - spriteX sh i - spriteWidth sh i * j →
        (spriteX sh i : Int) - 24 + ((spriteWidth sh i * j + k : Nat) : Int) ≠ x := by omega
    rw [drawSpritePixel_of_some hcolour, getElem?_foldl_putPixel hx hpart _ _ hrow,
      if_congr (sourceColumn_iff (spriteWidth_pos sh i)) rfl rfl]

theorem getElem?_drawSpriteRow (sh : Memory) (i d : Nat) {row : List Pixel} (hrow : x < row.length) :
    ((List.range 24).foldl (drawSpritePixel sh i d) row)[x]? = (spritePixel sh i d x).or row[x]? := by
  have hreached : (x + 24 - spriteX sh i) / spriteWidth sh i < 24 ∧ spriteX sh i ≤ x + 24 ↔
      spriteX sh i ≤ x + 24 ∧ x + 24 < spriteX sh i + 24 * spriteWidth sh i := by
    rw [Nat.div_lt_iff_lt_mul (spriteWidth_pos sh i)]
    omega
  rw [getElem?_foldl_draw (length_drawSpritePixel sh i d) (fun _ j h => getElem?_drawSpritePixel hx sh i d j h) _ hrow,
    findSome?_reverse_range fun j hj => if_neg fun h => hj h.2.symm, ← ite_and, spritePixel]
  simp only [and_true, hreached]

end

/-! ## The eight sprites (R526) -/

/-- The colour that sprite i gives to surface column x, if it is drawn at all: active and enabled. -/
def shownPixel (ram sh : Memory) (v : Video) (x i : Nat) : Option Pixel :=
  let p := v.sprites.getD i ⟨false, 0⟩
  if p.active && spriteEnabled sh i then spritePixel sh i (spriteData ram sh i p.row) x else none

theorem length_drawSprite (ram sh : Memory) (v : Video) (row : List Pixel) (i : Nat) :
    (drawSprite ram sh v row i).length = row.length := by
  unfold drawSprite
  dsimp only
  split
  · exact length_foldl (length_drawSpritePixel _ _ _) _ _
  · rfl

theorem getElem?_drawSprite {x : Nat} (hx : x < 320) (ram sh : Memory) (v : Video) (i : Nat) {row : List Pixel}
    (hrow : x < row.length) : (drawSprite ram sh v row i)[x]? = (shownPixel ram sh v x i).or row[x]? := by
  unfold drawSprite shownPixel
  dsimp only
  split
  · exact getElem?_drawSpriteRow hx _ _ _ hrow
  · rfl

theorem getElem?_drawSprites {x : Nat} (hx : x < 320) (ram sh : Memory) (v : Video) {row : List Pixel}
    (hrow : x < row.length) :
    (drawSprites ram sh v row)[x]? = ((List.range 8).findSome? (shownPixel ram sh v x)).or row[x]? :=
  getElem?_foldl_draw (length_drawSprite ram sh v) (fun _ i h => getElem?_drawSprite hx ram sh v i h)
    [7, 6, 5, 4, 3, 2, 1, 0] hrow

/-! ## The row (R516, R519) -/

theorem getElem?_graphicsRow {x : Nat} (hx : x < 320) (ram sh : Memory) (v : Video) :
    (graphicsRow ram sh v)[x]? = some (if !v.displayOn || illegalMode sh then 0 else graphicsPixel ram sh v x) := by
  unfold graphicsRow
  split
  · exact List.getElem?_replicate_of_lt hx
  · rw [List.getElem?_map, List.getElem?_range hx, Option.map_some]

/-- The mask's columns: 7 on the left and 9 on the right (R519). -/
theorem getElem?_maskBorder {x : Nat} (hx : x < 320) (sh : Memory) {row : List Pixel} (hrow : row.length = 320) :
    (maskBorder sh row)[x]? =
      if columns40 sh = false ∧ (x ≤ 6 ∨ 311 ≤ x) then some (borderColour sh) else row[x]? := by
  unfold maskBorder
  cases columns40 sh with
  | true => rfl
  | false =>
    have hlength : ((row.drop 7).take 304).length = 304 := by simp [hrow]
    simp only [Bool.false_eq_true, if_false, true_and]
    obtain hleft | hinner | hright : x < 7 ∨ (7 ≤ x ∧ x < 311) ∨ 311 ≤ x := by omega
    · rw [if_pos (by omega), List.getElem?_append_left (by simpa using hleft), List.getElem?_replicate_of_lt hleft]
    · obtain ⟨k, rfl⟩ := Nat.exists_eq_add_of_le hinner.1
      rw [if_neg (by omega), List.getElem?_append_right (by simp), List.length_replicate, Nat.add_sub_cancel_left,
        List.getElem?_append_left (by omega), List.getElem?_take_of_lt (by omega), List.getElem?_drop]
    · rw [if_pos (Or.inr hright), List.getElem?_append_right (by simp; omega), List.length_replicate,
        List.getElem?_append_right (by omega), hlength, List.getElem?_replicate_of_lt (by omega)]

theorem getElem?_renderRow_border {x : Nat} (hx : x < 320) (ram : Memory) {sh : Memory} {n : Nat} (v : Video)
    (h : displayEnable sh = false ∨ verticalBorder sh n = true) : (renderRow ram sh n v)[x]? = some (borderColour sh) := by
  have hborder : (!displayEnable sh || verticalBorder sh n) = true := by
    rcases h with h | h <;> simp [h]
  rw [renderRow, if_pos hborder, List.getElem?_replicate_of_lt hx]

/-- A pixel inside the vertical border: the mask, then the sprites, then the graphics. -/
theorem getElem?_renderRow_inner {x : Nat} (hx : x < 320) (ram : Memory) {sh : Memory} {n : Nat} (v : Video)
    (hden : displayEnable sh = true) (hvertical : ¬ verticalBorder sh n = true) :
    (renderRow ram sh n v)[x]? =
      if columns40 sh = false ∧ (x ≤ 6 ∨ 311 ≤ x) then some (borderColour sh)
      else ((List.range 8).findSome? (shownPixel ram sh v x)).or
        (some (if !v.displayOn || illegalMode sh then 0 else graphicsPixel ram sh v x)) := by
  have hgraphics := length_graphicsRow ram sh v
  rw [renderRow, if_neg (by simp [hden, hvertical]),
    getElem?_maskBorder hx sh ((length_drawSprites ram sh v _).trans hgraphics),
    getElem?_drawSprites hx ram sh v (hx.trans_eq hgraphics.symm), getElem?_graphicsRow hx]

/-! ## The words of R516 and R526 -/

theorem spriteX_eq_or (sh : Memory) (i : Nat) :
    spriteX sh i = (sh.read (2 * i)).toNat ||| (if (sh.read 0x010).getLsbD i then 0x100 else 0) := by
  unfold spriteX videoReg
  split
  · rw [Nat.add_comm, Nat.or_comm]
    exact Nat.shiftLeft_add_eq_or_of_lt (sh.read (2 * i)).isLt 1
  · exact (Nat.or_zero _).symm

/-- Three bytes shifted side by side do not overlap, so joining them is adding them up. -/
theorem or_shifts_eq_add (b0 b1 b2 : Byte) :
    (b0.toNat <<< 16) ||| (b1.toNat <<< 8) ||| b2.toNat = b0.toNat * 65536 + b1.toNat * 256 + b2.toNat := by
  have hlow : b1.toNat <<< 8 + b2.toNat = b1.toNat <<< 8 ||| b2.toNat := Nat.shiftLeft_add_eq_or_of_lt b2.isLt _
  have h1 := b1.isLt
  have h2 := b2.isLt
  have hlt : b1.toNat <<< 8 + b2.toNat < 2 ^ 16 := by
    rw [Nat.shiftLeft_eq]
    omega
  rw [Nat.or_assoc, ← hlow, ← Nat.shiftLeft_add_eq_or_of_lt hlt, Nat.shiftLeft_eq, Nat.shiftLeft_eq, Nat.add_assoc]

theorem spriteColour_eq_and (sh : Memory) (i d j : Nat) :
    spriteColour sh i d j =
      let own := nibble (sh.read (0x027 + i))
      let pair := (d >>> (22 - 2 * (j >>> 1))) &&& 3
      if (sh.read 0x01C).getLsbD i = false then (if d.testBit (23 - j) then some own else none)
      else if pair = 0 then none
      else if pair = 1 then some (nibble (sh.read 0x025))
      else if pair = 2 then some own
      else some (nibble (sh.read 0x026)) := by
  have hpair : (d >>> (22 - 2 * (j >>> 1))) &&& 3 = d / 2 ^ (22 - 2 * (j / 2)) % 4 := shiftRight_and_mask d _ 2
  rw [spriteColour, hpair]
  generalize d / 2 ^ (22 - 2 * (j / 2)) % 4 = p
  cases hmode : (sh.read 0x01C).getLsbD i with
  | false => exact if_neg (Bool.eq_false_iff.1 hmode)
  | true =>
    refine (if_pos hmode).trans ?_
    obtain _ | _ | _ | p := p <;> rfl

theorem verticalBorder_iff (sh : Memory) (n : Nat) :
    verticalBorder sh n = true ↔ if (sh.read 0x011).getLsbD 3 then n < 51 ∨ 250 < n else n < 55 ∨ 246 < n := by
  change (if (sh.read 0x011).getLsbD 3 then _ else _) = true ↔ _
  split <;> simp only [Bool.or_eq_true, decide_eq_true_eq]

theorem illegalMode_iff (sh : Memory) :
    illegalMode sh = true ↔
      (sh.read 0x011).getLsbD 6 = true ∧ ((sh.read 0x011).getLsbD 5 = true ∨ (sh.read 0x016).getLsbD 4 = true) := by
  simp only [illegalMode, extendedColour, bitmapMode, multicolour, videoReg, Bool.and_eq_true, Bool.or_eq_true]

theorem shownPixel_of_shown {sh : Memory} {v : Video} {i : Nat} (hactive : (v.sprites.getD i ⟨false, 0⟩).active = true)
    (henabled : spriteEnabled sh i = true) (ram : Memory) (x : Nat) :
    shownPixel ram sh v x i = spritePixel sh i (spriteData ram sh i (v.sprites.getD i ⟨false, 0⟩).row) x :=
  if_pos (Bool.and_eq_true_iff.2 ⟨hactive, henabled⟩)

theorem shownPixel_of_not_shown {sh : Memory} {v : Video} {i : Nat}
    (h : ¬ ((v.sprites.getD i ⟨false, 0⟩).active = true ∧ spriteEnabled sh i = true)) (ram : Memory) (x : Nat) :
    shownPixel ram sh v x i = none :=
  if_neg (mt Bool.and_eq_true_iff.1 h)

/-- Settles O54: the border, the mask, and inside them the sprites by number before the graphics. -/
theorem renderPaths : Obligations.RenderPaths := by
  intro ram sh n x v hx den border vertical masked illegal bank screen shown data colour spriteAt
  have hbank : videoBank sh = bank := videoBank_eq_and sh
  have hscreen : screenBase sh = screen := (screenBase_eq_and sh).trans (congrArg (· + _) hbank)
  have hvertical : verticalBorder sh n = true ↔ vertical := verticalBorder_iff sh n
  have hillegal : illegalMode sh = true ↔ illegal := illegalMode_iff sh
  have hdata (i : Nat) : spriteData ram sh i (v.sprites.getD i ⟨false, 0⟩).row = data i := by
    rw [spriteData, hbank, hscreen]
    exact (or_shifts_eq_add _ _ _).symm
  have hcolour (i j : Nat) : spriteColour sh i (data i) j = colour i j := spriteColour_eq_and sh i (data i) j
  have hsprite (i : Nat) : spritePixel sh i (data i) x = spriteAt i := by
    rw [spritePixel, hcolour, spriteX_eq_or]
    rfl
  have hsome {i : Nat} (h : shown i) : shownPixel ram sh v x i = spriteAt i := by
    rw [shownPixel_of_shown h.1 h.2, hdata, hsprite]
  have hnone {i : Nat} (h : shown i → spriteAt i = none) : shownPixel ram sh v x i = none := by
    by_cases hi : shown i
    · exact (hsome hi).trans (h hi)
    · exact shownPixel_of_not_shown hi ram x
  refine ⟨fun h => ?border, fun hden hv hm => ?masked, fun hden hv hm => ?inside⟩
  case border => exact getElem?_renderRow_border hx ram v (h.imp_right hvertical.2)
  case masked => exact (getElem?_renderRow_inner hx ram v hden (mt hvertical.1 hv)).trans (if_pos hm)
  case inside =>
    have hrow := (getElem?_renderRow_inner hx ram v hden (mt hvertical.1 hv)).trans (if_neg hm)
    refine ⟨fun i hi c hshown hc hbelow => ?sprite, fun hclear => ?below⟩
    case sprite =>
      rw [hrow, findSome?_range_of_least hi ((hsome hshown).trans hc) fun j hj => hnone (hbelow j hj), Option.some_or]
    case below =>
      have hall : (List.range 8).findSome? (shownPixel ram sh v x) = none :=
        List.findSome?_eq_none_iff.2 fun i hi => hnone (hclear i (List.mem_range.1 hi))
      rw [hrow, hall, Option.none_or]
      refine ⟨fun h => congrArg some (if_pos ?_), fun hon hlegal => congrArg some (if_neg ?_)⟩
      · simpa [hillegal] using h
      · simpa [hillegal, hon] using hlegal

end Sys2Proof.Machine
end

section
/-!
PROOFS. The audio unit's samples in number: the cadence over a run of rendered cycles, the flush with RATE_POLICY's bounds, and
the consumer (R552, R556, R572, R578, R582).
-/

namespace Sys2Proof.Machine

/-! ## The cadence (R556, R572) -/

/-- Over a run of cycles the cadence counts up by the sample rate, and down by the clock with each sample. -/
theorem renderCycles_cadence (p : Params) (sh : Memory) (n : Nat) (au : Audio) :
    (renderCycles p sh n au).2.length * p.cpuClockHz + (renderCycles p sh n au).1.sampleAcc =
      n * p.sampleRateHz + au.sampleAcc := by
  induction n generalizing au with
  | zero => simp [renderCycles]
  | succ n ih =>
    obtain ⟨hcycle, -⟩ := audioCycle_cadence p sh au
    have hrest := ih (audioCycle p sh au).1
    simp only [renderCycles, List.length_append, add_mul, one_mul]
    omega

theorem audioCycle_sampleAcc_lt {p : Params} {au : Audio} (hrate : p.sampleRateHz ≤ p.cpuClockHz)
    (h : au.sampleAcc < p.cpuClockHz) (sh : Memory) : (audioCycle p sh au).1.sampleAcc < p.cpuClockHz := by
  have hclocked : (clockChannels sh au).sampleAcc = au.sampleAcc := rfl
  unfold audioCycle
  dsimp only
  rw [hclocked]
  split
  case isTrue hfires =>
    change au.sampleAcc + p.sampleRateHz - p.cpuClockHz < p.cpuClockHz
    omega
  case isFalse hwaits => exact not_le.1 hwaits

theorem renderCycles_sampleAcc_lt {p : Params} {au : Audio} (hrate : p.sampleRateHz ≤ p.cpuClockHz)
    (h : au.sampleAcc < p.cpuClockHz) (sh : Memory) (n : Nat) :
    (renderCycles p sh n au).1.sampleAcc < p.cpuClockHz := by
  induction n generalizing au with
  | zero => exact h
  | succ n ih => exact ih (audioCycle_sampleAcc_lt hrate h sh)

/-- Settles O56: what the cadence counted, with both remainders below the clock, so at most one carry beyond the floor. -/
theorem sampleCadence : Obligations.SampleCadence := by
  intro p sh n au hrate hacc rate clock out
  have hlt : out.1.sampleAcc < clock := renderCycles_sampleAcc_lt hrate hacc sh n
  have hcount : out.2.length * clock + out.1.sampleAcc = n * rate + au.sampleAcc := renderCycles_cadence p sh n au
  have hclock : 0 < clock := Nat.zero_lt_of_lt hacc
  have hlength : out.2.length = (n * rate + au.sampleAcc) / clock := by
    rw [← hcount, Nat.add_comm, Nat.add_mul_div_right _ _ hclock, Nat.div_eq_of_lt hlt, Nat.zero_add]
  refine ⟨hlt, hcount, ?_⟩
  rw [hlength, Nat.add_div hclock, Nat.div_eq_of_lt hacc]
  split
  · exact Or.inr rfl
  · exact Or.inl rfl

/-! ## The rate policy (R578) -/

theorem le_rateCycles_host {n len : Nat} (h : len ≤ rateBandHigh) : n ≤ rateCycles .host n len := by
  unfold rateCycles
  dsimp only
  split
  · exact Nat.le_add_right _ _
  · rw [if_neg (not_lt.2 h)]

theorem rateCycles_host_le {n len : Nat} (h : Config.rateBandLow ≤ len) : rateCycles .host n len ≤ n := by
  unfold rateCycles
  dsimp only
  rw [if_neg (not_lt.2 h)]
  split
  · exact Nat.sub_le _ _
  · exact le_rfl

/-! ## The consumer (R582) -/

/-- What the consumer is given: the samples the queue has, then the last one again for each that it lacks. -/
theorem consumeSamples_fst (k : Nat) (au : Audio) :
    (consumeSamples k au).1 =
      au.queue.take k ++ List.replicate (k - au.queue.length) ((au.queue.take k).getLastD au.lastOut) := rfl

theorem length_consumeSamples (k : Nat) (au : Audio) : (consumeSamples k au).1.length = k := by
  rw [consumeSamples_fst, List.length_append, List.length_take, List.length_replicate]
  omega

theorem take_consumeSamples (k : Nat) (au : Audio) :
    (consumeSamples k au).1.take au.queue.length = au.queue.take k := by
  rw [consumeSamples_fst]
  obtain hk | hk := le_total k au.queue.length
  · rw [Nat.sub_eq_zero_of_le hk, List.replicate_zero, List.append_nil, List.take_take, Nat.min_eq_right hk]
  · rw [List.take_of_length_le hk, List.take_left]

theorem getElem?_consumeSamples_of_le {k j : Nat} {au : Audio} (hj : au.queue.length ≤ j) (hk : j < k) :
    (consumeSamples k au).1[j]? = some (au.queue.getLastD au.lastOut) := by
  rw [consumeSamples_fst, List.take_of_length_le (by omega), List.getElem?_append_right hj,
    List.getElem?_replicate_of_lt (by omega)]

/-- Repeating a list's last element leaves the last element. -/
theorem getLastD_append_replicate_getLastD {α : Type} (l : List α) (n : Nat) (d : α) :
    (l ++ List.replicate n (l.getLastD d)).getLastD d = l.getLastD d := by
  cases n with
  | zero => rw [List.replicate_zero, List.append_nil]
  | succ n => rw [List.replicate_succ', ← List.append_assoc, List.getLastD_concat]

/-- Settles O60: the flush, RATE_POLICY's two bounds, and what the consumer is given. -/
theorem flushAndConsume : Obligations.FlushAndConsume := by
  refine ⟨fun p sh now frameEnd au => rfl, fun n len => ?policy, fun k au => ?consumer⟩
  case policy =>
    exact ⟨rfl, le_rateCycles_host, rateCycles_host_le, fun hlow hhigh =>
      le_antisymm (rateCycles_host_le hlow) (le_rateCycles_host hhigh)⟩
  case consumer =>
    refine ⟨length_consumeSamples k au, take_consumeSamples k au, fun j => getElem?_consumeSamples_of_le, ?_⟩
    rw [consumeSamples_fst, getLastD_append_replicate_getLastD]
    have hshort : (if k - au.queue.length = 0 then 0 else 1) = if au.queue.length < k then 1 else 0 := by
      split_ifs <;> omega
    simp only [consumeSamples, hshort]

end Sys2Proof.Machine
end

section
/-!
PROOFS. The audio unit's oscillators and envelopes: the phase over n cycles, the noise output's bits, the selected waveform by
the control register's high nibble, and a level step as the last of a run of cycles in which the divider alone counts (R558,
R560 to R564, R566, R568).
-/

namespace Sys2Proof.Machine

/-! ## The oscillator (R560 to R562) -/

theorem clockNoise_eq (l : BitVec 23) :
    clockNoise l = (l <<< 1) ||| BitVec.ofNat 23 (l.getLsbD 22 ^^ l.getLsbD 17).toNat := by
  unfold clockNoise
  cases l.getLsbD 22 ^^ l.getLsbD 17 <;> rfl

theorem phaseAdvance_eq (acc : BitVec 24) (freq : BitVec 16) :
    acc + freq.setWidth 24 = BitVec.ofNat 24 (acc.toNat + freq.toNat) := by
  apply BitVec.eq_of_toNat_eq
  simp

theorem clockOsc_of_test {ctl : Byte} (h : ctl.getLsbD 3 = true) (freq : BitVec 16) (ch : Channel) :
    clockOsc ctl freq ch = ({ ch with acc := 0, lfsr := 0x7FFFF8 }, false) := if_pos h

theorem clockOsc_of_not_test {ctl : Byte} (h : ctl.getLsbD 3 = false) (freq : BitVec 16) (ch : Channel) :
    let acc := BitVec.ofNat 24 (ch.acc.toNat + freq.toNat)
    clockOsc ctl freq ch =
      ({ ch with acc := acc, lfsr := if !ch.acc.getLsbD 19 && acc.getLsbD 19 then clockNoise ch.lfsr else ch.lfsr },
        !ch.acc.getLsbD 23 && acc.getLsbD 23) := by
  rw [← phaseAdvance_eq]
  exact if_neg (Bool.eq_false_iff.1 h)

/-- The phase over a run of cycles (R560). -/
theorem iterate_clockOsc_acc {ctl : Byte} (h : ctl.getLsbD 3 = false) (freq : BitVec 16) (ch : Channel) (n : Nat) :
    ((fun c => (clockOsc ctl freq c).1)^[n] ch).acc = BitVec.ofNat 24 (ch.acc.toNat + n * freq.toNat) := by
  induction n with
  | zero => simp
  | succ n ih =>
    rw [Function.iterate_succ_apply', clockOsc_of_not_test h, ih]
    apply BitVec.eq_of_toNat_eq
    simp [add_mul, Nat.add_assoc]

/-- The noise output's bits, from bit 0 up, are the register's bits 2, 4, 7, 11, 13, 16, 20 and 22 (R561). -/
theorem getLsbD_noiseOut (l : BitVec 23) {k : Nat} (hk : k < 8) :
    (noiseOut l).getLsbD k = l.getLsbD ([2, 4, 7, 11, 13, 16, 20, 22].getD k 0) := by
  have hbits (b0 b1 b2 b3 b4 b5 b6 b7 : Bool) :
      128 * b7.toNat + 64 * b6.toNat + 32 * b5.toNat + 16 * b4.toNat + 8 * b3.toNat + 4 * b2.toNat + 2 * b1.toNat +
          b0.toNat =
        Nat.bit b0 (Nat.bit b1 (Nat.bit b2 (Nat.bit b3 (Nat.bit b4 (Nat.bit b5 (Nat.bit b6 (Nat.bit b7 0))))))) := by
    simp only [Nat.bit_val]
    omega
  rw [noiseOut, hbits, BitVec.getLsbD_ofNat, decide_eq_true hk, Bool.true_and]
  interval_cases k <;> simp only [Nat.testBit_bit_succ, Nat.testBit_bit_zero] <;> rfl

theorem applySync_eq (rose : Bool) (ctl : Byte) (ch : Channel) :
    applySync rose ctl ch = if rose = true ∧ ctl.getLsbD 1 = true then { ch with acc := 0 } else ch :=
  if_congr Bool.and_eq_true_iff rfl rfl

/-! ## The waveforms (R563, R564) -/

theorem getLsbD_highNibble (ctl : Byte) (j : Nat) : ctl.getLsbD (j + 4) = (ctl.toNat / 16).testBit j :=
  (Nat.testBit_div_two_pow ctl.toNat j).symm

theorem highNibble_lt (ctl : Byte) : ctl.toNat / 16 < 16 := by
  have := ctl.isLt
  omega

theorem waveSelected_iff (ctl : Byte) : waveSelected ctl = true ↔ ctl.toNat / 16 ≠ 0 := by
  have hnibble : ∀ m < 16, (m.testBit 0 || m.testBit 1 || m.testBit 2 || m.testBit 3) = true ↔ m ≠ 0 := by decide
  have h := hnibble _ (highNibble_lt ctl)
  simp only [← getLsbD_highNibble] at h
  exact h

theorem severalSelected_iff (ctl : Byte) : severalSelected ctl = true ↔ ctl.toNat / 16 ∉ [0, 1, 2, 4, 8] := by
  have hnibble : ∀ m < 16,
      2 ≤ (m.testBit 0).toNat + (m.testBit 1).toNat + (m.testBit 2).toNat + (m.testBit 3).toNat ↔
        m ∉ [0, 1, 2, 4, 8] := by
    decide
  have h := hnibble _ (highNibble_lt ctl)
  simp only [← getLsbD_highNibble] at h
  exact decide_eq_true_iff.trans h

theorem sawWave_eq (acc : BitVec 24) : sawWave acc = BitVec.ofNat 12 (acc.toNat >>> 12) := rfl

theorem triangleWave_eq (msb : Bool) (acc : BitVec 24) :
    triangleWave msb acc = BitVec.ofNat 12 ((if msb then 2 ^ 24 - 1 - acc.toNat else acc.toNat) >>> 11) := by
  cases msb with
  | false => rfl
  | true =>
    simp only [triangleWave, if_true, ← BitVec.toNat_not]
    rfl

theorem pulseWave_eq (ctl : Byte) (pw : BitVec 12) (acc : BitVec 24) :
    pulseWave ctl pw acc = if ctl.getLsbD 3 = true ∨ pw.toNat ≤ acc.toNat >>> 12 then 0xFFF else 0x000 := by
  have hsaw : (sawWave acc).toNat = acc.toNat >>> 12 := by
    have := acc.isLt
    rw [sawWave_eq, BitVec.toNat_ofNat, Nat.shiftRight_eq_div_pow]
    omega
  have hhigh : (testBit ctl || decide (pw ≤ sawWave acc)) = true ↔
      ctl.getLsbD 3 = true ∨ pw.toNat ≤ acc.toNat >>> 12 := by
    rw [Bool.or_eq_true, decide_eq_true_iff, BitVec.le_def, hsaw, testBit]
  exact if_congr hhigh rfl rfl

theorem noiseWave_eq (l : BitVec 23) : noiseWave l = BitVec.ofNat 12 ((noiseOut l).toNat <<< 4) := by
  apply BitVec.eq_of_toNat_eq
  have := (noiseOut l).isLt
  simp only [noiseWave, BitVec.toNat_shiftLeft, BitVec.toNat_setWidth, BitVec.toNat_ofNat, Nat.shiftLeft_eq]
  omega

/-- The bit that folds the triangle: the phase's own top bit, or ring modulation's (R563). -/
def foldBit (ctl : Byte) (ch ringSource : Channel) : Bool :=
  if ctl.getLsbD 2 then ch.acc.getLsbD 23 ^^ ringSource.acc.getLsbD 23 else ch.acc.getLsbD 23

section
variable (p : Params) (ctl : Byte) (pw : BitVec 12) (ch ring : Channel)

/-- Without a combination of the host's, the output is the bitwise AND of what is selected. -/
theorem waveOf_eq_and (h : severalSelected ctl = false ∨ p.combinedWave = .bitwiseAnd) :
    waveOf p ctl pw ch ring =
      andOfSelected ctl (triangleWave (foldBit ctl ch ring) ch.acc) (sawWave ch.acc) (pulseWave ctl pw ch.acc)
        (noiseWave ch.lfsr) := by
  unfold waveOf
  dsimp only
  split
  case isTrue hseveral =>
    rw [h.resolve_left (by simp [hseveral])]
    rfl
  case isFalse => rfl

theorem waveOf_host (hseveral : severalSelected ctl = true) (h : p.combinedWave = .host) :
    waveOf p ctl pw ch ring =
      Config.combinedWave ctl (triangleWave (foldBit ctl ch ring) ch.acc) (sawWave ch.acc) (pulseWave ctl pw ch.acc)
        (noiseWave ch.lfsr) := by
  unfold waveOf
  dsimp only
  rw [if_pos hseveral, h]
  rfl

end

theorem getLsbD_andOfSelected (ctl : Byte) (tri saw pulse noise : BitVec 12) {k : Nat} (hk : k < 12) :
    (andOfSelected ctl tri saw pulse noise).getLsbD k =
      ((!ctl.getLsbD 4 || tri.getLsbD k) && (!ctl.getLsbD 5 || saw.getLsbD k) &&
        (!ctl.getLsbD 6 || pulse.getLsbD k) && (!ctl.getLsbD 7 || noise.getLsbD k)) := by
  have hselect (b : Bool) (v : BitVec 12) : (if b then v else 0xFFF).getLsbD k = (!b || v.getLsbD k) := by
    cases b with
    | true => rfl
    | false => exact BitVec.getLsbD_allOnes.trans (decide_eq_true hk)
  simp only [andOfSelected, BitVec.getLsbD_and, hselect]

/-- Of a single waveform bit the AND is that bit's output. -/
theorem andOfSelected_single (ctl : Byte) (tri saw pulse noise : BitVec 12) :
    (ctl.toNat / 16 = 1 → andOfSelected ctl tri saw pulse noise = tri) ∧
    (ctl.toNat / 16 = 2 → andOfSelected ctl tri saw pulse noise = saw) ∧
    (ctl.toNat / 16 = 4 → andOfSelected ctl tri saw pulse noise = pulse) ∧
    (ctl.toNat / 16 = 8 → andOfSelected ctl tri saw pulse noise = noise) := by
  refine ⟨fun h => ?_, fun h => ?_, fun h => ?_, fun h => ?_⟩ <;>
    exact BitVec.eq_of_getLsbD_eq fun k hk => by
      rw [getLsbD_andOfSelected _ _ _ _ _ hk, getLsbD_highNibble ctl 0, getLsbD_highNibble ctl 1,
        getLsbD_highNibble ctl 2, getLsbD_highNibble ctl 3]
      simp [h, Nat.testBit]

/-! ## The envelope's registers and periods (R551, R558, R566, R568) -/

theorem audioReg_channel (sh : Memory) (i k : Nat) : audioReg sh (7 * i + k) = sh.read (0x400 + k + 7 * i) :=
  congrArg sh.read (by omega)

theorem ratePeriod_pos (rate : Nat) : 0 < ratePeriod rate := by
  have htable : ∀ r ∈ rateTable, 0 < r := by decide
  unfold ratePeriod
  rw [List.getD_eq_getElem?_getD]
  cases hr : rateTable[rate]?
  case none => decide
  case some r => exact htable r (List.mem_of_getElem? hr)

theorem envPeriod_pos (sh : Memory) (i : Nat) (phase : AdsrPhase) : 0 < envPeriod sh i phase := by
  cases phase <;> exact ratePeriod_pos _

theorem expPeriod_pos (e : Nat) : 0 < expPeriod e := by
  unfold expPeriod
  split_ifs <;> decide

theorem gateEdge_of_rise {ctl : Byte} {ch : Channel} (hgate : ctl.getLsbD 0 = true) (hprev : ch.gatePrev = false) :
    gateEdge ctl ch = { ch with adsr := .attack, gatePrev := true } := by
  rw [gateEdge, gateBit, hgate, hprev]
  rfl

theorem gateEdge_of_fall {ctl : Byte} {ch : Channel} (hgate : ctl.getLsbD 0 = false) (hprev : ch.gatePrev = true) :
    gateEdge ctl ch = { ch with adsr := .release, gatePrev := false } := by
  rw [gateEdge, gateBit, hgate, hprev]
  rfl

theorem gateEdge_of_same {ctl : Byte} {ch : Channel} (h : ctl.getLsbD 0 = ch.gatePrev) : gateEdge ctl ch = ch := by
  simp only [gateEdge, gateBit, h, Bool.and_not_self, Bool.not_and_self, Bool.false_eq_true, if_false]

/-! ## One cycle of the envelope (R568) -/

section
variable {sh : Memory} {i : Nat} {ch : Channel}

theorem clockEnv_of_lt (h : ch.rateCtr + 1 < envPeriod sh i ch.adsr) :
    clockEnv sh i ch = { ch with rateCtr := ch.rateCtr + 1 } :=
  if_pos h

theorem clockEnv_attack (hphase : ch.adsr = .attack) (h : ¬ ch.rateCtr + 1 < envPeriod sh i ch.adsr) :
    clockEnv sh i ch = attackStep { ch with rateCtr := 0 } := by
  rw [clockEnv, if_neg h, hphase]

theorem clockEnv_fall (hphase : ch.adsr ≠ .attack) (h : ¬ ch.rateCtr + 1 < envPeriod sh i ch.adsr) :
    clockEnv sh i ch =
      if ch.expCtr + 1 < expPeriod ch.env.toNat then { ch with rateCtr := 0, expCtr := ch.expCtr + 1 }
      else fallStep (sustainLevel sh i) { ch with rateCtr := 0, expCtr := 0 } := by
  rw [clockEnv, if_neg h]
  cases hadsr : ch.adsr with
  | attack => exact absurd hadsr hphase
  | decaySustain => rfl
  | release => rfl

theorem attackStep_env {k : Nat} (hk : k < 255) (henv : ch.env = BitVec.ofNat 8 k) :
    attackStep ch =
      { ch with env := BitVec.ofNat 8 (k + 1), adsr := if k + 1 = 255 then .decaySustain else .attack } := by
  have hnext : BitVec.ofNat 8 k + 1 = BitVec.ofNat 8 (k + 1) := by simp [BitVec.ofNat_add]
  have hfull (n : Nat) (hn : n < 256) : BitVec.ofNat 8 n = 0xFF ↔ n = 255 := by
    rw [← BitVec.toNat_inj, BitVec.toNat_ofNat, Nat.mod_eq_of_lt hn]
    rfl
  rw [attackStep, henv]
  simp only [hfull k (by omega), hk.ne, if_false, hnext, hfull (k + 1) (by omega)]

theorem attackStep_full (henv : ch.env = 0xFF) : attackStep ch = { ch with adsr := .decaySustain } := by
  simp [attackStep, henv]

theorem fallStep_decaySustain (hphase : ch.adsr = .decaySustain) (sustain : Nat) :
    fallStep sustain ch =
      if sustain < ch.env.toNat then { ch with env := ch.env - 1 } else ch := by
  rw [fallStep, hphase]

theorem fallStep_release (hphase : ch.adsr = .release) (sustain : Nat) :
    fallStep sustain ch = if 0 < ch.env.toNat then { ch with env := ch.env - 1 } else ch := by
  rw [fallStep, hphase]

/-! ## A run of cycles (R568) -/

/-- Before the rate counter reaches the period it alone counts. -/
theorem iterate_clockEnv_of_lt (hzero : ch.rateCtr = 0) {n : Nat} (hn : n < envPeriod sh i ch.adsr) :
    (clockEnv sh i)^[n] ch = { ch with rateCtr := n } := by
  induction n with
  | zero => rw [Function.iterate_zero_apply, ← hzero]
  | succ n ih =>
    rw [Function.iterate_succ_apply', ih (Nat.lt_of_succ_lt hn)]
    exact clockEnv_of_lt hn

/-- A whole period ends with the cycle in which the rate counter starts again. -/
theorem iterate_clockEnv_period (hzero : ch.rateCtr = 0) :
    ∃ n, ¬ n + 1 < envPeriod sh i ch.adsr ∧
      (clockEnv sh i)^[envPeriod sh i ch.adsr] ch = clockEnv sh i { ch with rateCtr := n } := by
  obtain ⟨n, hn⟩ := Nat.exists_eq_add_one.2 (envPeriod_pos sh i ch.adsr)
  refine ⟨n, by omega, ?_⟩
  rw [hn, Function.iterate_succ_apply', iterate_clockEnv_of_lt hzero (by omega)]

theorem withRateCtr_zero (hzero : ch.rateCtr = 0) : { ch with rateCtr := 0 } = ch := by
  rw [← hzero]

theorem iterate_clockEnv_attack (hphase : ch.adsr = .attack) (hzero : ch.rateCtr = 0) :
    (clockEnv sh i)^[envPeriod sh i .attack] ch = attackStep ch := by
  obtain ⟨n, hn, hrun⟩ := iterate_clockEnv_period (sh := sh) (i := i) hzero
  rw [← hphase, hrun, clockEnv_attack (ch := { ch with rateCtr := n }) hphase hn]
  exact congrArg attackStep (withRateCtr_zero hzero)

theorem iterate_clockEnv_fall (hphase : ch.adsr ≠ .attack) (hzero : ch.rateCtr = 0) :
    (clockEnv sh i)^[envPeriod sh i ch.adsr] ch =
      if ch.expCtr + 1 < expPeriod ch.env.toNat then { ch with expCtr := ch.expCtr + 1 }
      else fallStep (sustainLevel sh i) { ch with expCtr := 0 } := by
  obtain ⟨n, hn, hrun⟩ := iterate_clockEnv_period (sh := sh) (i := i) hzero
  rw [hrun, clockEnv_fall (ch := { ch with rateCtr := n }) hphase hn, ← hzero]

/-- One level of the attack ramp. -/
theorem iterate_clockEnv_level (hphase : ch.adsr = .attack) (hzero : ch.rateCtr = 0) {k : Nat} (hk : k < 255) :
    (clockEnv sh i)^[envPeriod sh i .attack] { ch with env := BitVec.ofNat 8 k } =
      { ch with env := BitVec.ofNat 8 (k + 1), adsr := if k + 1 = 255 then .decaySustain else .attack } :=
  (iterate_clockEnv_attack (ch := { ch with env := BitVec.ofNat 8 k }) hphase hzero).trans (attackStep_env hk rfl)

/-- The attack ramp: one level in a period, and at the last one the phase becomes DECAY_SUSTAIN. -/
theorem iterate_clockEnv_ramp (hphase : ch.adsr = .attack) (hzero : ch.rateCtr = 0) (henv : ch.env = 0) {k : Nat}
    (hk : k < 255) :
    (clockEnv sh i)^[(k + 1) * envPeriod sh i .attack] ch =
      { ch with env := BitVec.ofNat 8 (k + 1), adsr := if k + 1 = 255 then .decaySustain else .attack } := by
  have hbelow : (clockEnv sh i)^[k * envPeriod sh i .attack] ch = { ch with env := BitVec.ofNat 8 k } := by
    induction k with
    | zero =>
      rw [Nat.zero_mul, Function.iterate_zero_apply]
      exact congrArg (fun e => { ch with env := e }) henv
    | succ k ih =>
      rw [Nat.succ_mul, Nat.add_comm, Function.iterate_add_apply, ih (by omega),
        iterate_clockEnv_level hphase hzero (by omega), if_neg (by omega), ← hphase]
  rw [Nat.succ_mul, Nat.add_comm, Function.iterate_add_apply, hbelow, iterate_clockEnv_level hphase hzero hk]

/-- Before the exponential divider fires it alone counts, once in a period. -/
theorem iterate_clockEnv_divider (hphase : ch.adsr ≠ .attack) (hzero : ch.rateCtr = 0) (hexp : ch.expCtr = 0) {j : Nat}
    (hj : j < expPeriod ch.env.toNat) :
    (clockEnv sh i)^[j * envPeriod sh i ch.adsr] ch = { ch with expCtr := j } := by
  induction j with
  | zero => rw [Nat.zero_mul, Function.iterate_zero_apply, ← hexp]
  | succ j ih =>
    rw [Nat.succ_mul, Nat.add_comm, Function.iterate_add_apply, ih (Nat.lt_of_succ_lt hj)]
    exact (iterate_clockEnv_fall (ch := { ch with expCtr := j }) hphase hzero).trans (if_pos hj)

/-- A whole round of the divider is one step down (R568). -/
theorem iterate_clockEnv_fallStep (hphase : ch.adsr ≠ .attack) (hzero : ch.rateCtr = 0) (hexp : ch.expCtr = 0) :
    (clockEnv sh i)^[expPeriod ch.env.toNat * envPeriod sh i ch.adsr] ch = fallStep (sustainLevel sh i) ch := by
  obtain ⟨j, hj⟩ := Nat.exists_eq_add_one.2 (expPeriod_pos ch.env.toNat)
  rw [hj, Nat.succ_mul, Nat.add_comm, Function.iterate_add_apply,
    iterate_clockEnv_divider hphase hzero hexp (by omega)]
  refine (iterate_clockEnv_fall (ch := { ch with expCtr := j }) hphase hzero).trans ((if_neg ?_).trans ?_)
  · exact not_lt.2 hj.le
  · rw [← hexp]

end

/-- Settles O59: the oscillator, sync and the waveforms; then the envelope, where a step of the level is the last cycle of a run
in which its counters alone moved. -/
theorem oscillatorAndEnvelope : Obligations.OscillatorAndEnvelope := by
  refine ⟨fun ctl freq ch => ?oscillator, fun l k hk => getLsbD_noiseOut l hk, fun sh au => ?sync,
    fun p ctl pw ch ring => ?waves, rfl,
    fun ctl ch => ⟨gateEdge_of_rise, gateEdge_of_fall, gateEdge_of_same⟩, fun sh i ch => ?envelope⟩
  case oscillator =>
    intro acc noise
    refine ⟨fun h => clockOsc_of_test h freq ch, fun h => ⟨?_, iterate_clockOsc_acc h freq ch⟩⟩
    rw [clockOsc_of_not_test h, clockNoise_eq]
    simp only [Bool.and_eq_true, Bool.not_eq_true']
    rfl
  case sync =>
    intro c0 c1 c2 synced
    have hsync (rose : Bool) (j : Nat) (c : Channel) : applySync rose (audioControl sh j) c = synced rose j c := by
      rw [applySync_eq, audioControl, audioReg_channel]
    simp only [clockChannels, hsync]
    rfl
  case waves =>
    intro msb saw triangle pulse noise wave
    have htriangle : triangleWave (foldBit ctl ch ring) ch.acc = triangle := triangleWave_eq _ _
    have hpulse : pulseWave ctl pw ch.acc = pulse := pulseWave_eq ctl pw ch.acc
    have hnoise : noiseWave ch.lfsr = noise := noiseWave_eq ch.lfsr
    have hand (h : severalSelected ctl = false ∨ p.combinedWave = .bitwiseAnd) :
        wave = andOfSelected ctl triangle saw pulse noise := by
      rw [← htriangle, ← hpulse, ← hnoise]
      exact waveOf_eq_and p ctl pw ch ring h
    have hone (h : ctl.toNat / 16 ∈ [0, 1, 2, 4, 8]) : wave = andOfSelected ctl triangle saw pulse noise :=
      hand (Or.inl (Bool.eq_false_iff.2 fun hseveral => (severalSelected_iff ctl).1 hseveral h))
    obtain ⟨htri, hsaw, hpul, hnoi⟩ := andOfSelected_single ctl triangle saw pulse noise
    refine ⟨fun h => (hone (by simp [h])).trans (htri h), fun h => (hone (by simp [h])).trans (hsaw h),
      fun h => (hone (by simp [h])).trans (hpul h), fun h => (hone (by simp [h])).trans (hnoi h),
      fun h => ⟨fun hpolicy k hk => ?_, fun hpolicy => ?_⟩⟩
    · rw [hand (Or.inr hpolicy), getLsbD_andOfSelected _ _ _ _ _ hk]
    · rw [← htriangle, ← hpulse, ← hnoise]
      exact waveOf_host p ctl pw ch ring ((severalSelected_iff ctl).2 h) hpolicy
  case envelope =>
    intro ad sr e divider after
    have hattack : envPeriod sh i .attack = ratePeriod (ad / 16) := by
      rw [envPeriod, attackRate, audioReg_channel]
    have hdecay : envPeriod sh i .decaySustain = ratePeriod (ad % 16) := by
      rw [envPeriod, decayRate, audioReg_channel]
    have hrelease : envPeriod sh i .release = ratePeriod (sr % 16) := by
      rw [envPeriod, releaseRate, audioReg_channel]
    have hsustain : sustainLevel sh i = sr / 16 * 0x11 := by
      rw [sustainLevel, audioReg_channel]
    refine ⟨fun hphase hzero => ⟨fun henv k hpos hk => ?_, fun henv => ?_⟩, fun hphase hzero hexp => ?_,
      fun hphase hzero hexp => ?_⟩
    · obtain ⟨k, rfl⟩ := Nat.exists_eq_add_one.2 hpos
      rw [← hattack]
      exact iterate_clockEnv_ramp hphase hzero henv hk
    · rw [← hattack]
      exact (iterate_clockEnv_attack hphase hzero).trans (attackStep_full henv)
    · have hrun := iterate_clockEnv_fallStep (sh := sh) (i := i) (by simp [hphase]) hzero hexp
      rw [hphase, hdecay, fallStep_decaySustain hphase, hsustain] at hrun
      exact hrun
    · have hrun := iterate_clockEnv_fallStep (sh := sh) (i := i) (by simp [hphase]) hzero hexp
      rw [hphase, hrelease, fallStep_release hphase] at hrun
      exact hrun

end Sys2Proof.Machine
end

section
/-!
PROOFS. The audio unit's filter and its sample: the default coefficients and their stability, the eigenvalues of the filter's
update, and a sample in the rules' words (R573 to R576).
-/

namespace Sys2Proof.Machine

open Sys2Proof.Safety

/-! ## Stability (R575) -/

/-- Jury's conditions for a real quadratic: with `|t| < 1 + d` and `d < 1` its roots lie inside the unit circle. -/
theorem norm_lt_one_of_quadratic {t d : ℝ} (hd : d < 1) (hneg : -(1 + d) < t) (hpos : t < 1 + d) {z : ℂ}
    (hz : z ^ 2 - (t : ℂ) * z + (d : ℂ) = 0) : ‖z‖ < 1 := by
  have hre : z.re * z.re - z.im * z.im - t * z.re + d = 0 := by simpa [pow_two] using congrArg Complex.re hz
  have him : z.re * z.im + z.im * z.re - t * z.im = 0 := by simpa [pow_two] using congrArg Complex.im hz
  have hsq : z.re * z.re + z.im * z.im < 1 := by
    have hfactor : z.im * (2 * z.re - t) = 0 := by linear_combination him
    obtain hreal | hpair := mul_eq_zero.1 hfactor
    case inl =>
      rw [hreal] at hre ⊢
      have hhigh : z.re < 1 := by
        by_contra hge
        nlinarith
      have hlow : -1 < z.re := by
        by_contra hle
        nlinarith
      nlinarith
    case inr =>
      have ht : t = 2 * z.re := by linarith
      subst ht
      linarith
  rw [← Complex.normSq_apply, Complex.normSq_eq_norm_sq] at hsq
  exact (sq_lt_one_iff₀ (norm_nonneg z)).1 hsq

/-- Of the filter's update the determinant is `1 - f * q` and the trace `2 - f * q - f ^ 2`, for which Jury's conditions are
those of R575. -/
theorem norm_lt_one_of_stableReal {f q : ℝ} (h : StableReal f q) {z : ℂ}
    (hz : z ^ 2 - ((1 - f * q + (1 - f ^ 2) : ℝ) : ℂ) * z +
      (((1 - f * q) * (1 - f ^ 2) - -f * (f * (1 - f * q)) : ℝ) : ℂ) = 0) : ‖z‖ < 1 := by
  obtain ⟨hf, hlow, hhigh, hsum⟩ := h
  have hdet : (1 - f * q) * (1 - f ^ 2) - -f * (f * (1 - f * q)) = 1 - f * q := by ring
  rw [hdet] at hz
  have hsq : 0 < f ^ 2 := pow_pos hf 2
  exact norm_lt_one_of_quadratic (by linarith) (by linarith) (by linarith) hz

/-! ## The default coefficients (R574) -/

theorem formulaF_toReal_bounds {rate : Nat} (h : 0 < rate) (fc : Nat) :
    0 < (formulaF rate fc).toReal ∧ (formulaF rate fc).toReal ≤ 1 := by
  have hrate : (0 : ℝ) < rate := Nat.cast_pos.2 h
  have hpos : (0 : ℝ) < min (30 * (400 : ℝ) ^ ((fc : ℝ) / 2047)) ((rate : ℝ) / 6) :=
    lt_min (by positivity) (by positivity)
  have hle := min_le_right (30 * (400 : ℝ) ^ ((fc : ℝ) / 2047)) ((rate : ℝ) / 6)
  rw [formulaF_toReal rate fc h]
  generalize min (30 * (400 : ℝ) ^ ((fc : ℝ) / 2047)) ((rate : ℝ) / 6) = cut at hpos hle ⊢
  have hpi := Real.pi_pos
  have hangle : 0 < Real.pi * cut / rate := by positivity
  have hsixth : Real.pi * cut / rate ≤ Real.pi / 6 := by
    rw [div_le_iff₀ hrate]
    nlinarith
  have hsin : Real.sin (Real.pi * cut / rate) ≤ 1 / 2 :=
    Real.sin_pi_div_six ▸ Real.sin_le_sin_of_le_of_le_pi_div_two (by linarith) (by linarith) hsixth
  have hsinpos := Real.sin_pos_of_pos_of_lt_pi hangle (by linarith)
  exact ⟨by linarith, by linarith⟩

theorem formulaQ_toReal_bounds {res : Nat} (h : res ≤ 15) :
    0 < (formulaQ res).toReal ∧ (formulaQ res).toReal < 3 / 2 := by
  have hres : (res : ℝ) ≤ 15 := by exact_mod_cast h
  have hres0 : (0 : ℝ) ≤ res := Nat.cast_nonneg res
  have hlow : 1 ≤ Real.sqrt 2 := Real.one_le_sqrt.2 one_le_two
  have hhigh : Real.sqrt 2 < 3 / 2 := (Real.sqrt_lt' (by norm_num)).2 (by norm_num)
  rw [formulaQ_toReal]
  constructor <;> nlinarith

/-- Where the cutoff is a sixth of the sample rate or more, `f` is 1: the comparison of `formulaF` is that one, raised to the
power of 2047. -/
theorem formulaF_of_sixth_le {rate fc : Nat} (h : (rate : ℝ) / 6 ≤ 30 * (400 : ℝ) ^ ((fc : ℝ) / 2047)) :
    formulaF rate fc = .rat 1 := by
  have hpower : ((400 : ℝ) ^ ((fc : ℝ) / 2047)) ^ 2047 = 400 ^ fc := by
    rw [← Real.rpow_mul_natCast (by norm_num), Nat.cast_ofNat, div_mul_cancel₀ _ (by norm_num), Real.rpow_natCast]
  have hraised : (rate : ℝ) ^ 2047 ≤ 180 ^ 2047 * 400 ^ fc := by
    rw [← hpower, ← mul_pow]
    exact pow_le_pow_left₀ (Nat.cast_nonneg rate) (by linarith) 2047
  exact if_pos (by exact_mod_cast hraised)

theorem stableReal_formula {rate fc res : Nat} (hres : res ≤ 15) :
    StableReal (formulaF rate fc).toReal (formulaQ res).toReal := by
  obtain ⟨hq, hq2⟩ := formulaQ_toReal_bounds hres
  have hf : 0 < (formulaF rate fc).toReal ∧ (formulaF rate fc).toReal ≤ 1 := by
    obtain rfl | hrate := Nat.eq_zero_or_pos rate
    · rw [formulaF_of_sixth_le (by rw [Nat.cast_zero, zero_div]; positivity)]
      norm_num
    · exact formulaF_toReal_bounds hrate fc
  obtain ⟨hf, hf1⟩ := hf
  have hfq : 0 < (formulaF rate fc).toReal * (formulaQ res).toReal := mul_pos hf hq
  have hfq2 : (formulaF rate fc).toReal * (formulaQ res).toReal < 3 / 2 := (mul_le_of_le_one_left hq.le hf1).trans_lt hq2
  have hsq : (formulaF rate fc).toReal ^ 2 ≤ 1 := pow_le_one₀ hf.le hf1
  exact ⟨hf, hfq, by linarith, by linarith⟩

/-- The coefficients of either FILTER_COEFF are stable (R575). -/
theorem stableReal_filterCoeff (p : Params) (fc : Nat) {res : Nat} (hres : res ≤ 15) :
    StableReal (filterCoeff p fc res).1.toReal (filterCoeff p fc res).2.toReal := by
  unfold filterCoeff
  split
  · exact stableReal_formula hres
  · exact stableReal_hostCoeff p.sampleRateHz fc res

/-- Settles O57: the update's matrix, and its eigenvalues by Jury's conditions. -/
theorem filterStability : Obligations.FilterStability := by
  intro p fc res _ hres c
  have hstable : StableReal c.1.toReal c.2.toReal := stableReal_filterCoeff p fc hres
  refine ⟨hstable, _, _, _, _, fun lp bp => ?linear, fun z => norm_lt_one_of_stableReal hstable⟩
  obtain ⟨hbp, hlp, -⟩ := filterStep_toReal c.1 c.2 (.rat 0) lp bp
  refine ⟨hbp.trans ?_, hlp.trans ?_⟩ <;> simp only [RealTerm.toReal_rat, Rat.cast_zero] <;> ring

/-! ## A sample (R573 to R576) -/

theorem cutoff_eq_or (sh : Memory) :
    cutoff sh = ((sh.read 0x416).toNat <<< 3) ||| ((sh.read 0x415).toNat &&& 7) := by
  have hlow : (sh.read 0x415).toNat &&& 7 = (sh.read 0x415).toNat % 2 ^ 3 := Nat.and_two_pow_sub_one_eq_mod _ 3
  rw [hlow, ← Nat.shiftLeft_add_eq_or_of_lt (Nat.mod_lt _ (by decide)), Nat.shiftLeft_eq]
  rfl

theorem resonance_eq_shiftRight (sh : Memory) : resonance sh = (sh.read 0x417).toNat >>> 4 :=
  (Nat.shiftRight_eq_div_pow _ 4).symm

theorem masterVolume_eq_and (sh : Memory) : masterVolume sh = (sh.read 0x418).toNat &&& 0x0F :=
  (and_0x0F _).symm

theorem audioPulseWidth_eq_or (sh : Memory) (i : Nat) :
    audioPulseWidth sh i =
      BitVec.ofNat 12 ((sh.read (0x402 + 7 * i)).toNat ||| ((sh.read (0x403 + 7 * i)).toNat <<< 8)) := by
  have hword (lo hi : Byte) : (mkAddr lo hi).toNat = lo.toNat ||| (hi.toNat <<< 8) := by
    rw [mkAddr_toNat, Nat.or_comm, ← Nat.shiftLeft_add_eq_or_of_lt lo.isLt, Nat.shiftLeft_eq]
  rw [audioPulseWidth, audioReg_channel, audioReg_channel, ← hword]
  rfl

/-- A channel's signal: none without a waveform bit (R573). -/
theorem channelSignal_eq (p : Params) (ctl : Byte) (pw : BitVec 12) (ch ring : Channel) :
    channelSignal p ctl pw ch ring =
      if ctl.toNat / 16 = 0 then 0 else (((waveOf p ctl pw ch ring).toNat : Int) - 2048) * ch.env.toNat := by
  have hnone : ctl.toNat / 16 = 0 ↔ waveSelected ctl = false := by
    rw [← Bool.not_eq_true, waveSelected_iff, not_not]
  simp only [hnone]
  unfold channelSignal
  cases waveSelected ctl <;> rfl

/-- The selected outputs, on the reals (R574). -/
theorem filterOutput_toReal (sh : Memory) (lp bp hp : RealTerm) :
    (filterOutput sh lp bp hp).toReal =
      (if modeBit sh 4 then lp.toReal else 0) + (if modeBit sh 5 then bp.toReal else 0) +
        (if modeBit sh 6 then hp.toReal else 0) := by
  have hselect (b : Bool) (a : RealTerm) : (if b then a else .rat 0).toReal = if b then a.toReal else 0 := by
    cases b <;> simp
  simp only [filterOutput, RealTerm.toReal_add, hselect]

theorem computeSample_snd (p : Params) (sh : Memory) (au : Audio) :
    let c := filterCoeff p (cutoff sh) (resonance sh)
    let run := filterStep c.1 c.2 (.rat (filterInput p sh au)) au.lp au.bp
    (computeSample p sh au).2 =
      normalise (.add (.rat (directPath p sh au)) (filterOutput sh run.2.1 run.1 run.2.2)) (masterVolume sh) := rfl

/-- The sample of a filter run, on the reals, in terms of the model's own input, direct path and coefficients. -/
theorem computeSample_toReal (p : Params) (sh : Memory) (au : Audio) :
    let c := filterCoeff p (cutoff sh) (resonance sh)
    let hp := (filterInput p sh au : ℝ) - au.lp.toReal - c.2.toReal * au.bp.toReal
    let bp := au.bp.toReal + c.1.toReal * hp
    let lp := au.lp.toReal + c.1.toReal * bp
    let fout := (if modeBit sh 4 then lp else 0) + (if modeBit sh 5 then bp else 0) + (if modeBit sh 6 then hp else 0)
    let out := computeSample p sh au
    out.1.bp.toReal = bp ∧ out.1.lp.toReal = lp ∧ { out.1 with bp := au.bp, lp := au.lp } = au ∧
    out.2.toReal =
      max (-1) (min 1 (((directPath p sh au : ℝ) + fout) * (masterVolume sh : ℝ) / (15 * 3 * 2048 * 255))) := by
  intro c hp bp lp fout out
  obtain ⟨hbp, hlp, hhp⟩ := filterStep_toReal c.1 c.2 (.rat (filterInput p sh au)) au.lp au.bp
  simp only [RealTerm.toReal_rat, Rat.cast_intCast] at hbp hlp hhp
  refine ⟨hbp, hlp, rfl, ?_⟩
  rw [computeSample_snd, normalise_toReal, RealTerm.toReal_add, filterOutput_toReal, hbp, hlp, hhp, RealTerm.toReal_rat,
    Rat.cast_intCast]

/-- Settles O58: the coefficients, and a sample with its registers read as the rules write them. -/
theorem defaultCoefficientsStable : Obligations.DefaultCoefficientsStable := by
  refine ⟨fun p fc res hpolicy hrate _ hres => ?coefficients, fun p sh au => ?sample⟩
  case coefficients =>
    intro c
    have hc : c = (formulaF p.sampleRateHz fc, formulaQ res) := by
      simp only [c, filterCoeff, hpolicy]
    rw [hc]
    exact ⟨⟨formulaF_toReal _ fc hrate, formulaQ_toReal res⟩, stableReal_formula hres, formulaF_of_sixth_le⟩
  case sample =>
    intro mode fc c signal v0 v1 v2 route fin dir
    have hsignal (i : Nat) (ch ring : Channel) :
        channelSignal p (audioControl sh i) (audioPulseWidth sh i) ch ring = signal i ch ring := by
      rw [channelSignal_eq, audioControl, audioReg_channel, audioPulseWidth_eq_or]
    have hsignals : signals p sh au = (v0, v1, v2) := by
      simp only [signals, hsignal]
      rfl
    have hfin : filterInput p sh au = fin := by
      rw [filterInput, hsignals]
      rfl
    have hdir : directPath p sh au = dir := by
      rw [directPath, hsignals]
      simp only [Bool.or_eq_true]
      rfl
    have hc : filterCoeff p (cutoff sh) (resonance sh) = c := by
      rw [cutoff_eq_or, resonance_eq_shiftRight]
    have hsample := computeSample_toReal p sh au
    rw [hc, hfin, hdir, masterVolume_eq_and] at hsample
    exact hsample

end Sys2Proof.Machine
end
